-- ==== Sys2Proof/Word.lean ====
section
/-! DEFINITION. The two widths of this hardware's plain data: the 8-bit byte of FB, FBTEX and CPU memory,
and the 32-bit word of the register port (20_memory R50, 10_state R27). -/

namespace Sys2Proof

/-- An element of FB, FBTEX or CPU memory (20_memory R50). -/
abbrev Byte := BitVec 8

/-- A value on the register port, and a command word (10_state R27, 30_encoding R80). -/
abbrev Word := BitVec 32

end Sys2Proof
end

