-- ==== Sys2Proof/Syntax.lean ====
section
/-! DEFINITION. The nine commands of 30_encoding R84, one constructor per row of spec/opcode_table.json.
Every operand is an unsigned natural, as 30_encoding R85 has it; `Instr.WellFormed` bounds it by its field. -/

namespace Sys2Proof

/-- A command of the block. Reserved fields are no operands: the block ignores them (30_encoding R86). -/
inductive Instr where
  /-- SETPIX x, y, c8: format P, 40_packed_framebuffer R104. -/
  | setpix (x y c8 : Nat)
  /-- GETPIX x, y: format P, 40_packed_framebuffer R105. -/
  | getpix (x y : Nat)
  /-- LOADFB: format Z, 40_packed_framebuffer R107. -/
  | loadfb
  /-- COLORAT idx8: format I, 41_palette_table R121. -/
  | colorat (idx8 : Nat)
  /-- LOADPAL: format Z, 41_palette_table R122. -/
  | loadpal
  /-- UPLOADFB y0, n: format R, 42_texture_pipeline R131. -/
  | uploadfb (y0 n : Nat)
  /-- UPLOADPAL: format Z, 42_texture_pipeline R133. -/
  | uploadpal
  /-- DECODE: format Z, 43_display_decoder R141. -/
  | decode
  /-- VPORT W, H: format V, 44_viewport_mapper R171. -/
  | vport (W H : Nat)
deriving DecidableEq, Repr

end Sys2Proof
end

