-- ==== Sys2Proof/WellFormed.lean ====
section
/-! DEFINITION. A command is well formed when each operand fits the field its format gives it
(30_encoding R81 to R83). An operand beyond the configured size is well formed all the same: the command
rejects it, not the decoder (R85). -/

namespace Sys2Proof

/-- Every operand fits its field: x and y in 10 bits, c8 and idx8 in 8, y0 and n in 11, W and H in 14. -/
abbrev Instr.WellFormed (i : Instr) : Prop :=
  match i with
  | .setpix x y c8 => x < 1024 ∧ y < 1024 ∧ c8 < 256
  | .getpix x y => x < 1024 ∧ y < 1024
  | .loadfb => True
  | .colorat idx8 => idx8 < 256
  | .loadpal => True
  | .uploadfb y0 n => y0 < 2048 ∧ n < 2048
  | .uploadpal => True
  | .decode => True
  | .vport W H => W < 16384 ∧ H < 16384

end Sys2Proof
end

