-- ==== Sys2Proof/Decode.lean ====
section
/-! DEFINITION. The decoder of command words and, after it, the encoder (30_encoding R80 to R88). -/

namespace Sys2Proof

/-- Why a word is not a command. -/
inductive DecodeError where
  /-- The opcode field is reserved (30_encoding R87). -/
  | reservedOpcode (op : BitVec 4)
deriving DecidableEq, Repr

/-- The opcode field, bits 31:28 of every format (30_encoding R80). -/
def opField (w : Word) : BitVec 4 := w.extractLsb' 28 4

/-- Field x, bits 9:0 of format P (30_encoding R81). -/
def xField (w : Word) : BitVec 10 := w.extractLsb' 0 10

/-- Field y, bits 19:10 of format P (30_encoding R81). -/
def yField (w : Word) : BitVec 10 := w.extractLsb' 10 10

/-- Field c8, bits 27:20 of format P (30_encoding R81). -/
def c8Field (w : Word) : BitVec 8 := w.extractLsb' 20 8

/-- Field idx8, bits 7:0 of format I (30_encoding R82). -/
def idx8Field (w : Word) : BitVec 8 := w.extractLsb' 0 8

/-- Field y0, bits 10:0 of format R (30_encoding R82). -/
def y0Field (w : Word) : BitVec 11 := w.extractLsb' 0 11

/-- Field n, bits 21:11 of format R (30_encoding R82). -/
def nField (w : Word) : BitVec 11 := w.extractLsb' 11 11

/-- Field W, bits 13:0 of format V (30_encoding R83). -/
def widthField (w : Word) : BitVec 14 := w.extractLsb' 0 14

/-- Field H, bits 27:14 of format V (30_encoding R83). -/
def heightField (w : Word) : BitVec 14 := w.extractLsb' 14 14

/-- The decode function, total on 32-bit words (30_encoding R84, R88): one of the nine commands, its reserved
bits dropped (R86), or a reserved opcode by name (R87). -/
def decodeWord (w : Word) : Except DecodeError Instr :=
  match (opField w).toNat with
  | 1 => .ok (.setpix (xField w).toNat (yField w).toNat (c8Field w).toNat)
  | 2 => .ok (.getpix (xField w).toNat (yField w).toNat)
  | 3 => .ok .loadfb
  | 4 => .ok (.colorat (idx8Field w).toNat)
  | 5 => .ok .loadpal
  | 6 => .ok (.uploadfb (y0Field w).toNat (nField w).toNat)
  | 7 => .ok .uploadpal
  | 8 => .ok .decode
  | 9 => .ok (.vport (widthField w).toNat (heightField w).toNat)
  | _ => .error (.reservedOpcode (opField w))

/-- The instruction the decoder reads from a table row's word `w` of `nbits` bits, the bits above zero. A
command word is one 32-bit value on the register port, so there are no bytes to lay out (20_memory R59). -/
def decodeTableWord (nbits w : Nat) : Option Instr :=
  match decodeWord (BitVec.ofNat 32 (w % 2 ^ nbits)) with
  | .ok i => some i
  | .error _ => none

/-- The opcode of a command (30_encoding R84). -/
def Instr.opcode (i : Instr) : Nat :=
  match i with
  | .setpix _ _ _ => 1
  | .getpix _ _ => 2
  | .loadfb => 3
  | .colorat _ => 4
  | .loadpal => 5
  | .uploadfb _ _ => 6
  | .uploadpal => 7
  | .decode => 8
  | .vport _ _ => 9

/-- The bits of a command's word that its format does not reserve (30_encoding R81 to R83, R86). -/
def Instr.usedBits (i : Instr) : Word :=
  match i with
  | .setpix _ _ _ => 0xFFFFFFFF
  | .getpix _ _ => 0xF00FFFFF
  | .loadfb => 0xF0000000
  | .colorat _ => 0xF00000FF
  | .loadpal => 0xF0000000
  | .uploadfb _ _ => 0xF03FFFFF
  | .uploadpal => 0xF0000000
  | .decode => 0xF0000000
  | .vport _ _ => 0xFFFFFFFF

/-- The 28 operand bits of a command, reserved bits written as 0 (30_encoding R81 to R83, R86). -/
def Instr.operandBits (i : Instr) : BitVec 28 :=
  match i with
  | .setpix x y c8 => BitVec.ofNat 8 c8 ++ (BitVec.ofNat 10 y ++ BitVec.ofNat 10 x)
  | .getpix x y => BitVec.ofNat 8 0 ++ (BitVec.ofNat 10 y ++ BitVec.ofNat 10 x)
  | .loadfb => 0
  | .colorat idx8 => BitVec.ofNat 20 0 ++ BitVec.ofNat 8 idx8
  | .loadpal => 0
  | .uploadfb y0 n => BitVec.ofNat 6 0 ++ (BitVec.ofNat 11 n ++ BitVec.ofNat 11 y0)
  | .uploadpal => 0
  | .decode => 0
  | .vport W H => BitVec.ofNat 14 H ++ BitVec.ofNat 14 W

/-- The command word of a well-formed command; an operand too wide for its field loses its high bits. -/
def encode (i : Instr) : Word := BitVec.ofNat 4 i.opcode ++ i.operandBits

end Sys2Proof
end

