-- ==== Sys2Proof/Config.lean ====
section
/-! DEFINITION. The configuration record of 00_scope R6, its legality, and the free values of the model.
A configuration is data with the proof that it is legal, so no State can hold one that R60 and R232 refuse. -/

namespace Sys2Proof

/-- SCALE_POLICY of 00_scope R6: the two policies of 44_viewport_mapper R172 and R173. -/
inductive ScalePolicy where
  | continuous
  | integer
deriving DecidableEq, Repr, Inhabited

/-- The parameters of 00_scope R6 that no source gives a value ("OPEN"). -/
structure OpenParams where
  /-- HEIGHT. -/
  height : Nat
  /-- FB_BASE. -/
  fbBase : Nat
  /-- ADDR_BITS. -/
  addrBits : Nat
  /-- SCALE_POLICY. -/
  policy : ScalePolicy
  /-- SCANWAVE as the list of its values over one period, first row first. DEDUCED: a function of a natural
  that is periodic is exactly such a list (log 3). -/
  wave : List ℚ
deriving DecidableEq, Repr, Inhabited

/-- Every parameter of 00_scope R6, legal or not. -/
structure Params extends OpenParams where
  /-- WIDTH. -/
  width : Nat
  /-- K_WARP_X. -/
  kWarpX : ℚ
  /-- K_WARP_Y. -/
  kWarpY : ℚ
  /-- K_SCAN. -/
  kScan : ℚ
  /-- TARGET_CLOCK_HZ. -/
  targetClockHz : Nat
  /-- DEFAULT_REFRESH_HZ. -/
  defaultRefreshHz : Nat
deriving DecidableEq, Repr

/-- FB_BYTES of 00_scope R6: `(WIDTH * HEIGHT) / 2`. -/
def Params.fbBytes (p : Params) : Nat := p.width * p.height / 2

/-- The constraints of the table of 00_scope R6, even WIDTH (20_memory R60) among them. -/
abbrev Params.Legal (p : Params) : Prop :=
  (2 ≤ p.width ∧ p.width ≤ 1024 ∧ p.width % 2 = 0) ∧
  (1 ≤ p.height ∧ p.height ≤ 1024) ∧
  p.fbBase + p.fbBytes ≤ 2 ^ p.addrBits ∧
  (0 ≤ p.kWarpX ∧ 0 ≤ p.kWarpY) ∧
  (0 ≤ p.kScan ∧ p.kScan ≤ 1) ∧
  (p.wave ≠ [] ∧ ∀ q ∈ p.wave, 0 ≤ q ∧ q ≤ 1) ∧
  1 ≤ p.defaultRefreshHz

/-- `Params.Legal`, decided. -/
def Params.valid (p : Params) : Bool := decide p.Legal

/-- A configuration of this hardware: parameters with the proof that they are legal. -/
structure Cfg extends Params where
  /-- The configuration is one the spec admits. -/
  ok : toParams.valid = true
deriving DecidableEq, Repr

/-- Parameters the spec does not admit are refused: "A configuration with odd `WIDTH` is not a configuration
of this hardware; a model refuses it" (20_memory R60). -/
def Cfg.ofParams (p : Params) : Option Cfg :=
  if h : p.valid = true then some ⟨p, h⟩ else none

/-- The OPEN parameters with the default values of 00_scope R6 for all the others (log 2). -/
def OpenParams.withDefaults (o : OpenParams) : Params :=
  { o with
    width := 320
    kWarpX := 3 / 10
    kWarpY := 4 / 10
    kScan := 1 / 2
    targetClockHz := 10000000
    defaultRefreshHz := 60 }

/-- Configuration T1 of 95_test_vectors section 0, in an address space of 16 bits. -/
def Config.t1 : Cfg :=
  { (OpenParams.mk 200 0x8000 16 .integer [0, 1]).withDefaults with ok := by decide +kernel }

/-- Configuration T2 of 95_test_vectors section 0 (the integer policy of programs P2 and P3). -/
def Config.t2 : Cfg :=
  { (OpenParams.mk 2 0x8000 16 .integer [0, 1]).withDefaults with
    width := 4
    ok := by decide +kernel }

/-- DESIGN CHOICE (log 1), safe: the OPEN parameters of the machine that `State.reset` is. Nothing is known
of them. -/
opaque Config.openParams : OpenParams

/-- The configuration of `State.reset`: the free OPEN parameters with the spec's defaults where that is
legal. Values that are not legal stand for no configuration and are replaced by T1 (log 1). -/
def Config.cfg : Cfg :=
  (Cfg.ofParams Config.openParams.withDefaults).getD Config.t1

/-- DESIGN CHOICE (log 5), safe: what byte `i` of FB holds after the reset numbered `draw`
(10_state R42, 93_implementation_defined U1: "any value"). -/
opaque Config.fbAfterReset (draw i : Nat) : Byte

/-- DESIGN CHOICE (log 5), safe: what byte `t` of row `r` of FBTEX holds after a reset. -/
opaque Config.fbtexAfterReset (draw r t : Nat) : Byte

/-- DESIGN CHOICE (log 5), safe: the colour word of PAL[k] after a reset. -/
opaque Config.palAfterReset (draw k : Nat) : Word

/-- DESIGN CHOICE (log 5), safe: the colour word of PALTEX[k] after a reset. -/
opaque Config.paltexAfterReset (draw k : Nat) : Word

/-- DESIGN CHOICE (log 5), safe: what PALSTAGE[k] holds after a reset. -/
opaque Config.palstageAfterReset (draw k : Nat) : Word

/-- DESIGN CHOICE (log 6), safe: the colour word of a surface pixel the spec leaves unspecified, for the use
numbered `draw` (10_state R38, 43_display_decoder R156, 93_implementation_defined U5: "any value, and not
necessarily the value they had before"). -/
opaque Config.unspecifiedPixel (draw py px : Nat) : Word

end Sys2Proof
end

