-- ==== Sys2Proof/Machine/Colour.lean ====
section
/-! DEFINITION. Colours and the 32-bit colour word (10_state R23, R34). -/

namespace Sys2Proof.Machine

/-- A colour: "an RGBA value with 8 bits per channel" (10_state R23). -/
structure Colour where
  r : BitVec 8
  g : BitVec 8
  b : BitVec 8
  a : BitVec 8
deriving DecidableEq, Repr, Inhabited

/-- ColorOfWord of 10_state R34: the word reads 0xRRGGBBAA. -/
def Colour.ofWord (w : Word) : Colour where
  r := w.extractLsb' 24 8
  g := w.extractLsb' 16 8
  b := w.extractLsb' 8 8
  a := w.extractLsb' 0 8

/-- WordOfColor of 10_state R34. -/
def Colour.toWord (c : Colour) : Word := (c.r ++ c.g) ++ (c.b ++ c.a)

/-- BLACK, the colour of the border: (0, 0, 0, 255) (43_display_decoder R145). -/
def Colour.black : Colour := ⟨0, 0, 0, 255⟩

end Sys2Proof.Machine
end

