-- ==== Sys2Proof/Machine/State.lean ====
section
/-! DEFINITION. The state of the machine: every register and store of 10_state, and, as the model's own
fields, the inputs of 10_state R40 that one closed machine needs. Plain data throughout. -/

namespace Sys2Proof.Machine

/-- PAL and PALTEX hold "exactly 16" colours (10_state R23, R26). -/
abbrev Palette := Vector Colour 16

/-- The content of a surface: rows of colours, `SURF[py][px]` (10_state R38). -/
abbrev Frame := List (List Colour)

/-- CPU memory as (address, byte) pairs, addresses strictly rising; an unlisted address reads as
`Memory.unlisted` and no pair lists that value (log 7). -/
abbrev Memory := List Host.Cell

/-- A rectangle (x, y, width, height) in exact rationals (10_state R36, 45_presentation_loop R184). -/
structure Rect where
  x : ℚ
  y : ℚ
  w : ℚ
  h : ℚ
deriving DecidableEq, Repr

/-- A monitor as the windowing collaborator reports it: its rectangle, and its refresh rate in hertz, none
when the query fails (45_presentation_loop R184, R185). -/
structure Monitor where
  rect : Rect
  rate : Option Nat
deriving DecidableEq, Repr

/-- The operands of one UPLOADFB of an iteration (45_presentation_loop R181 step 5). -/
structure RowRange where
  y0 : BitVec 11
  n : BitVec 11
deriving DecidableEq, Repr

/-- What the environment and the host supply to one iteration of the loop (45_presentation_loop R181). -/
structure Iteration where
  /-- The monitors, in list order. -/
  monitors : List Monitor
  /-- The window centre, given as an input (92_eei_decisions D43). -/
  centreX : ℚ
  centreY : ℚ
  /-- The bytes of CPU memory that the CPU changes in step 3, in order. -/
  cpuWrites : List Host.Cell
  /-- The row ranges the host uploads in step 5. -/
  uploads : List RowRange
  /-- Whether the host issues UPLOADPAL in step 5. -/
  uploadPal : Bool
deriving DecidableEq, Repr

/-- The entries of the CPU collaborator that can change CPU memory (20_memory R68); its `read` changes
nothing. -/
inductive CpuCall where
  /-- `run(cycleCount)`. -/
  | run (cycles : Nat)
  /-- `write(address, byte)`, by the host or by the program image loader (20_memory R69). -/
  | write
  /-- The CPU's own reset entry point (70_reset_and_hazards R221). -/
  | reset
deriving DecidableEq, Repr

/-- What can happen to the machine next: a host access of the register port, or an event of its environment
(20_memory R62, 60_exceptions R207). -/
inductive Event where
  /-- `RegWrite(n, v)` of 10_state R27. -/
  | regWrite (n : Nat) (v : Word)
  /-- `RegRead(n)` of 10_state R27. -/
  | regRead (n : Nat)
  /-- A call of the CPU collaborator, with the bytes of CPU memory it changes. -/
  | cpu (call : CpuCall) (writes : List Host.Cell)
  /-- The block's reset input (70_reset_and_hazards R220). -/
  | blockReset
  /-- A window resize notification (60_exceptions R207); sizes fit VPORT's 14-bit fields. -/
  | resize (W H : BitVec 14)
  /-- The window is hidden or minimised, or visible again (45_presentation_loop R182). -/
  | visibility (visible : Bool)
  /-- The top of the loop: one iteration begins (45_presentation_loop R181). -/
  | iterate (it : Iteration)
  /-- A close request, observed at the top of the loop (45_presentation_loop R183). -/
  | close
  /-- A fatal start-up error (60_exceptions R203). -/
  | startupFailure
deriving DecidableEq, Repr

/-- The host's state (45_presentation_loop R182, R183). -/
inductive LoopMode where
  | running
  | paused
  | terminated
deriving DecidableEq, Repr

/-- The host's Frame Cadence State (10_state R40): the refresh rate R and the CPU-cycle budget. -/
structure Cadence where
  refresh : Nat
  budget : Nat
deriving DecidableEq, Repr

/-- Why the machine stops. -/
inductive Fault where
  /-- Raised by a call of the CPU collaborator that changes a byte outside the 2^ADDR_BITS bytes of CPU
  memory (20_memory R50); no command raises it. Safe: such an address does not exist (log 12). -/
  | noSuchCpuAddress (a : Nat)
deriving DecidableEq, Repr

/-- Why an instruction has no meaning. -/
inductive Refusal where
  /-- Raised by `exec` for an instruction that is not modelled; no instruction is. Safe. -/
  | notModelled (mnemonic : String)
deriving DecidableEq, Repr

/-- The state of the machine. -/
structure State where
  /-- Cfg of 00_scope R6; no step changes it (log 4). -/
  cfg : Cfg
  /-- FB, FB_BYTES bytes (10_state R22). -/
  fb : List Byte
  /-- FBTEX, HEIGHT rows of WIDTH/2 bytes (10_state R25). -/
  fbtex : List (List Byte)
  /-- PAL (10_state R23). -/
  pal : Palette
  /-- PALTEX (10_state R26). -/
  paltex : Palette
  /-- REG.PALSTAGE[0..15] (10_state R24, R33). -/
  palstage : Vector Word 16
  /-- REG.STATUS, bits 1:0: ERR_CMD, ERR_RANGE (10_state R29). -/
  status : BitVec 2
  /-- REG.RESULT (10_state R32). -/
  result : Word
  /-- REG.WARP, bits 8:0 (10_state R30). -/
  warp : BitVec 9
  /-- REG.SCAN, bits 8:0 (10_state R31). -/
  scan : BitVec 9
  /-- VP (10_state R36). -/
  vp : Rect
  /-- SURF_W (10_state R37). -/
  surfW : Nat
  /-- SURF_H (10_state R37). -/
  surfH : Nat
  /-- SURF (10_state R38). -/
  surf : Frame
  /-- PRESENTED, oldest first (10_state R39). -/
  presented : List Frame
  /-- CPU memory, an input (20_memory R68; log 7). -/
  cpuMem : Memory
  /-- What is still to happen, next first (20_memory R62; log 8). -/
  pending : List Event
  /-- The value the last RegRead returned to the host (10_state R27; log 9). -/
  readData : Word
  /-- The host's Running, Paused/Hidden or terminated state (45_presentation_loop R182; log 10). -/
  loop : LoopMode
  /-- The cadence of the last iteration begun, none before the first (45_presentation_loop R185; log 10). -/
  cadence : Option Cadence
  /-- How many times content became unspecified; the index of the free values (log 6). -/
  draws : Nat
deriving DecidableEq, Repr

/-- Replaces `fb`. -/
def State.setFb (s : State) (v : List Byte) : State := { s with fb := v }

/-- Replaces `fbtex`. -/
def State.setFbtex (s : State) (v : List (List Byte)) : State := { s with fbtex := v }

/-- Replaces `pal`. -/
def State.setPal (s : State) (v : Palette) : State := { s with pal := v }

/-- Replaces `paltex`. -/
def State.setPaltex (s : State) (v : Palette) : State := { s with paltex := v }

/-- Replaces `palstage`. -/
def State.setPalstage (s : State) (v : Vector Word 16) : State := { s with palstage := v }

/-- Replaces `status`. -/
def State.setStatus (s : State) (v : BitVec 2) : State := { s with status := v }

/-- Replaces `result`. -/
def State.setResult (s : State) (v : Word) : State := { s with result := v }

/-- Replaces `warp`. -/
def State.setWarp (s : State) (v : BitVec 9) : State := { s with warp := v }

/-- Replaces `scan`. -/
def State.setScan (s : State) (v : BitVec 9) : State := { s with scan := v }

/-- Replaces `surf`. -/
def State.setSurf (s : State) (v : Frame) : State := { s with surf := v }

/-- Replaces `presented`. -/
def State.setPresented (s : State) (v : List Frame) : State := { s with presented := v }

/-- Replaces `cpuMem`. -/
def State.setCpuMem (s : State) (v : Memory) : State := { s with cpuMem := v }

/-- Replaces `pending`. -/
def State.setPending (s : State) (v : List Event) : State := { s with pending := v }

/-- Replaces `readData`. -/
def State.setReadData (s : State) (v : Word) : State := { s with readData := v }

/-- Replaces `loop`. -/
def State.setLoop (s : State) (v : LoopMode) : State := { s with loop := v }

/-- Replaces `cadence`. -/
def State.setCadence (s : State) (v : Option Cadence) : State := { s with cadence := v }

/-- Replaces `draws`. -/
def State.setDraws (s : State) (v : Nat) : State := { s with draws := v }

/-- Replaces the surface size and the viewport rectangle, which only VPORT and reset do. -/
def State.setView (s : State) (W H : Nat) (r : Rect) : State := { s with surfW := W, surfH := H, vp := r }

/-- The state after the reset numbered `draw` of a block with configuration `c`: the values of 10_state R41,
and free values for the stores of R42 (log 5). SURF has no pixels, since SURF_W = SURF_H = 0. -/
def State.resetOf (c : Cfg) (draw : Nat) : State where
  cfg := c
  fb := (List.range c.fbBytes).map (Config.fbAfterReset draw)
  fbtex := (List.range c.height).map fun r => (List.range (c.width / 2)).map (Config.fbtexAfterReset draw r)
  pal := Vector.ofFn fun k : Fin 16 => Colour.ofWord (Config.palAfterReset draw k)
  paltex := Vector.ofFn fun k : Fin 16 => Colour.ofWord (Config.paltexAfterReset draw k)
  palstage := Vector.ofFn fun k : Fin 16 => Config.palstageAfterReset draw k
  status := 0
  result := 0
  warp := 0
  scan := 0
  vp := ⟨0, 0, 0, 0⟩
  surfW := 0
  surfH := 0
  surf := []
  presented := []
  cpuMem := []
  pending := []
  readData := 0
  loop := .running
  cadence := none
  draws := draw + 1

/-- The machine right after reset (70_reset_and_hazards R220). -/
def State.reset : State := State.resetOf Config.cfg 0

end Sys2Proof.Machine
end

