-- ==== Sys2Proof/Machine/Loop.lean ====
section
/-! DEFINITION. The host: monitor selection, refresh rate, cycle budget, the sequence of one
iteration, as pure functions (45_presentation_loop R181 to R187). -/

namespace Sys2Proof.Machine

/-- Inside(M) of 45_presentation_loop R184: half-open. -/
abbrev Monitor.Inside (m : Monitor) (cx cy : ℚ) : Prop :=
  (m.rect.x ≤ cx ∧ cx < m.rect.x + m.rect.w) ∧ (m.rect.y ≤ cy ∧ cy < m.rect.y + m.rect.h)

/-- The coordinate clamped into [lo, lo + len]: `min(max(c, lo), lo + len)` (45_presentation_loop R184). -/
def clampInto (c lo len : ℚ) : ℚ := min (max c lo) (lo + len)

/-- Dist2(M) of 45_presentation_loop R184. -/
def Monitor.dist2 (m : Monitor) (cx cy : ℚ) : ℚ :=
  (cx - clampInto cx m.rect.x m.rect.w) ^ 2 + (cy - clampInto cy m.rect.y m.rect.h) ^ 2

/-- The least index of a monitor that holds the centre. -/
def firstInside (cx cy : ℚ) (ms : List Monitor) : Option Nat :=
  match ms with
  | [] => none
  | m :: rest => if m.Inside cx cy then some 0 else (firstInside cx cy rest).map (· + 1)

/-- The least index among the monitors of least Dist2, with that distance. -/
def nearest (cx cy : ℚ) (ms : List Monitor) : Option (Nat × ℚ) :=
  match ms with
  | [] => none
  | m :: rest =>
    match nearest cx cy rest with
    | none => some (0, m.dist2 cx cy)
    | some (j, d) => if m.dist2 cx cy ≤ d then some (0, m.dist2 cx cy) else some (j + 1, d)

/-- Select of 45_presentation_loop R184: the index of the monitor that hosts the window. -/
def selectMonitor (cx cy : ℚ) (ms : List Monitor) : Option Nat :=
  match firstInside cx cy ms with
  | some j => some j
  | none => (nearest cx cy ms).map (·.1)

/-- The rate the selected monitor reports, none when no monitor is selected or its query fails. -/
def reportedRate (ms : List Monitor) (sel : Option Nat) : Option Nat :=
  match sel with
  | none => none
  | some j =>
    match ms[j]? with
    | none => none
    | some m => m.rate

/-- R of 45_presentation_loop R185: a failed query and a reported 0 fall back to DEFAULT_REFRESH_HZ. -/
def refreshRate (c : Cfg) (reported : Option Nat) : Nat :=
  match reported with
  | none => c.defaultRefreshHz
  | some r => if r = 0 then c.defaultRefreshHz else r

/-- Budget(R) of 45_presentation_loop R186. -/
def cycleBudget (c : Cfg) (r : Nat) : Nat := c.targetClockHz / r

/-- Steps 1 and 2 of an iteration (45_presentation_loop R181). -/
def Iteration.cadence (it : Iteration) (c : Cfg) : Cadence :=
  let r := refreshRate c (reportedRate it.monitors (selectMonitor it.centreX it.centreY it.monitors))
  ⟨r, cycleBudget c r⟩

/-- A command as the host issues it: its word written to REG.CMD (30_encoding R89). -/
def command (i : Instr) : Event := .regWrite 0 (encode i)

/-- Steps 3 to 6 of an iteration, in order (45_presentation_loop R181): run the CPU with the budget, LOADFB,
the uploads, DECODE. -/
def Iteration.actions (it : Iteration) (budget : Nat) : List Event :=
  [.cpu (.run budget) it.cpuWrites, command .loadfb] ++
  it.uploads.map (fun r => command (.uploadfb r.y0.toNat r.n.toNat)) ++
  (if it.uploadPal then [command .uploadpal] else []) ++
  [command .decode]

/-- The frame's commands, steps 4 to 6 of an iteration, of which a paused host issues none (60_exceptions R213). -/
def isFrameCommand (i : Instr) : Bool :=
  match i with
  | .setpix _ _ _ => false
  | .getpix _ _ => false
  | .loadfb => true
  | .colorat _ => false
  | .loadpal => false
  | .uploadfb _ _ => true
  | .uploadpal => true
  | .decode => true
  | .vport _ _ => false

/-- Whether a word written to REG.CMD is one of the frame's commands. -/
def isFrameWord (w : Word) : Bool :=
  match decodeWord w with
  | .ok i => isFrameCommand i
  | .error _ => false

/-- Whether an event is work of the six steps (45_presentation_loop R181): an iteration, the CPU's run, or one of
the frame's commands. -/
def isFrameWork (e : Event) : Bool :=
  match e with
  | .regWrite n v => decide (n = 0) && isFrameWord v
  | .regRead _ => false
  | .cpu (.run _) _ => true
  | .cpu .write _ => false
  | .cpu .reset _ => false
  | .blockReset => false
  | .resize _ _ => false
  | .visibility _ => false
  | .iterate _ => true
  | .close => false
  | .startupFailure => false

/-- Whether the host skips an action in its present state: "While Paused/Hidden the host issues no DECODE" and
performs none of the six steps (45_presentation_loop R182; log 25). -/
def heldBack (m : LoopMode) (e : Event) : Bool :=
  match m with
  | .running => false
  | .paused => isFrameWork e
  | .terminated => false

end Sys2Proof.Machine
end

