-- ==== Sys2Proof/Machine/Assembler.lean ====
section
/-! DEFINITION. The notation of 30_encoding R89 and the pseudo-commands of R90 as lists of host actions. -/

namespace Sys2Proof.Machine

/-- The register names of 10_state R27. -/
inductive RegName where
  | cmd
  | status
  | result
  | warp
  | scan
  | palstage (k : Fin 16)
deriving DecidableEq, Repr

/-- The register number of a name (10_state R27). -/
def RegName.number (r : RegName) : Nat :=
  match r with
  | .cmd => 0x00
  | .status => 0x01
  | .result => 0x02
  | .warp => 0x03
  | .scan => 0x04
  | .palstage k => 0x10 + k.val

/-- A line of a program (30_encoding R89): a command, one of the two bus operations, or a pseudo-command. -/
inductive Line where
  | command (i : Instr)
  /-- WR reg, value, with the register's number. -/
  | wr (n : Nat) (v : Word)
  /-- RD reg, with the register's number. -/
  | rd (n : Nat)
  /-- UPLOADFB.ALL. -/
  | uploadfbAll
  /-- SETPAL c0, ..., c15. -/
  | setpal (cols : Vector Word 16)
  /-- FRAME. -/
  | frame
  /-- NOCRT. -/
  | nocrt
deriving DecidableEq, Repr

/-- UPLOADFB.ALL is `UPLOADFB 0, HEIGHT` (30_encoding R90). -/
def uploadAll (c : Cfg) : Instr := .uploadfb 0 c.height

/-- The four commands of FRAME, in order (30_encoding R90, 45_presentation_loop R188). -/
def frameCommands (c : Cfg) : List Instr := [.loadfb, uploadAll c, .uploadpal, .decode]

/-- SETPAL: sixteen staging writes, then LOADPAL (30_encoding R90). -/
def setPalette (cols : Vector Word 16) : List Event :=
  (List.finRange 16).map (fun k => .regWrite (RegName.palstage k).number cols[k]) ++ [command .loadpal]

/-- The host actions of a line (30_encoding R89, R90). -/
def assemble (c : Cfg) (l : Line) : List Event :=
  match l with
  | .command i => [command i]
  | .wr n v => [.regWrite n v]
  | .rd n => [.regRead n]
  | .uploadfbAll => [command (uploadAll c)]
  | .setpal cols => setPalette cols
  | .frame => (frameCommands c).map command
  | .nocrt => [.regWrite RegName.warp.number 0, .regWrite RegName.scan.number 0]

/-- The host actions of a program. -/
def assembleAll (c : Cfg) (ls : List Line) : List Event := ls.flatMap (assemble c)

/-- The start-up order of 70_reset_and_hazards R223, steps 2 to 4, for a window of W by H. -/
def startUp (cols : Vector Word 16) (W H : Nat) (warp scan : Word) : List Line :=
  [.setpal cols, .command .uploadpal, .command (.vport W H),
    .wr RegName.warp.number warp, .wr RegName.scan.number scan]

end Sys2Proof.Machine
end

