-- ==== Sys2Proof/Machine/Flags.lean ====
section
/-! DEFINITION. The two sticky flags of REG.STATUS, the only condition codes (10_state R29, 60_exceptions R200). -/

namespace Sys2Proof.Machine

/-- The flags of REG.STATUS by bit number (60_exceptions R200). -/
inductive Flag where
  | errRange
  | errCmd
deriving DecidableEq, Repr

/-- The bit of a flag in REG.STATUS. -/
def Flag.mask (f : Flag) : BitVec 2 :=
  match f with
  | .errRange => 1
  | .errCmd => 2

/-- `flag STATUS.X` of 00_scope R10: sets the bit, and nothing else. Once set it stays (10_state R29). -/
def State.flag (s : State) (f : Flag) : State := s.setStatus (s.status ||| f.mask)

/-- Whether a flag is set. -/
def State.hasFlag (s : State) (f : Flag) : Bool := decide (s.status &&& f.mask = f.mask)

end Sys2Proof.Machine
end

