-- ==== Sys2Proof/Machine/Operands.lean ====
section
/-! DEFINITION. Operand forms: what a command's operands name in the stores (20_memory R52 to R58). -/

namespace Sys2Proof.Machine

/-- An operand of which a command uses the low 4 bits: `c8 & 0xF`, `idx8 & 0xF` (30_encoding R85). -/
def low4 (v : Nat) : Nat := v &&& 0xF

/-- Whether (x, y) is a logical pixel (40_packed_framebuffer R104, R105). -/
def inLogical (c : Cfg) (x y : Nat) : Bool := decide (x < c.width ∧ y < c.height)

/-- PixByte of 20_memory R58: the index into FB of the byte that holds (x, y). -/
def pixByte (c : Cfg) (x y : Nat) : Nat := (y * c.width + x) / 2

/-- Unpack of 20_memory R58: even x is the high nibble, odd x the low nibble (R57). -/
def unpack (b : Byte) (x : Nat) : BitVec 4 :=
  if x % 2 = 0 then b.extractLsb' 4 4 else b.extractLsb' 0 4

/-- Pack of 20_memory R58: the byte `b` with the nibble of `x` replaced by the low 4 bits of `v`. -/
def pack (b : Byte) (x v : Nat) : Byte :=
  if x % 2 = 0 then (BitVec.ofNat 8 (low4 v) <<< 4) ||| (b &&& 0x0F)
  else (b &&& 0xF0) ||| BitVec.ofNat 8 (low4 v)

/-- The bytes in a row of FB and of FBTEX, `WIDTH/2` (20_memory R52, R53). -/
def rowBytes (c : Cfg) : Nat := c.width / 2

/-- FB[i]. An index outside FB, which no reachable state and no command presents, reads 0 (log 15). -/
def State.fbByte (s : State) (i : Nat) : Byte := s.fb.getD i 0

/-- FBTEX[r][t], with the same remark (log 15). -/
def State.texel (s : State) (r t : Nat) : Byte := (s.fbtex.getD r []).getD t 0

/-- Row `r` of FB, as 20_memory R53 sees it: the bytes `FB[r*(WIDTH/2) + t]`. -/
def State.fbRow (s : State) (r : Nat) : List Byte :=
  (List.range (rowBytes s.cfg)).map fun t => s.fbByte (r * rowBytes s.cfg + t)

/-- The pixel (x, y) as FB holds it (40_packed_framebuffer R101). -/
def State.pixel (s : State) (x y : Nat) : BitVec 4 := unpack (s.fbByte (pixByte s.cfg x y)) x

/-- The palette index of an operand or of a pixel: the low 4 bits (20_memory R54). -/
def paletteIndex (v : Nat) : Fin 16 := ⟨low4 v, Nat.lt_succ_of_le Nat.and_le_right⟩

end Sys2Proof.Machine
end

