-- ==== Sys2Proof/Machine/Ops.lean ====
section
/-! DEFINITION. The shared operations over memory, registers and stores. This hardware takes no exception and
returns from none (60_exceptions R209): what stands in the place of taking one is `State.reject`. -/

namespace Sys2Proof.Machine

/-- What a byte of CPU memory that is not listed reads as. DESIGN CHOICE (log 7), unsafe: the spec makes the
contents an input (20_memory R68). -/
def Memory.unlisted : Byte := 0

/-- One byte of CPU memory. -/
def Memory.read (m : Memory) (a : Nat) : Byte :=
  match m with
  | [] => Memory.unlisted
  | c :: rest => if c.1 = a then c.2 else Memory.read rest a

/-- Puts a pair before the others unless it lists the unlisted value. -/
def Memory.list (a : Nat) (v : Byte) (m : Memory) : Memory :=
  if v = Memory.unlisted then m else (a, v) :: m

/-- CPU memory with one byte changed, in canonical form again. -/
def Memory.write (m : Memory) (a : Nat) (v : Byte) : Memory :=
  match m with
  | [] => Memory.list a v []
  | c :: rest =>
    if a < c.1 then Memory.list a v (c :: rest)
    else if a = c.1 then Memory.list a v rest
    else c :: Memory.write rest a v

/-- The canonical form: addresses strictly rising, and no pair lists the unlisted value. -/
abbrev Memory.wf (m : Memory) : Prop :=
  m.Pairwise (fun c d => c.1 < d.1) ∧ ∀ c ∈ m, c.2 ≠ Memory.unlisted

/-- Several bytes changed, in order. -/
def Memory.writeAll (m : Memory) (ws : List Host.Cell) : Memory :=
  match ws with
  | [] => m
  | c :: rest => Memory.writeAll (m.write c.1 c.2) rest

/-- Whether an address is one of the 2^ADDR_BITS of CPU memory (20_memory R50). -/
def cpuAddress (c : Cfg) (a : Nat) : Bool := decide (a < 2 ^ c.addrBits)

/-- `MemRead(addr, 1)` of 00_scope R10, the CPU collaborator's `read` (20_memory R68). -/
def State.memRead (s : State) (a : Nat) : Byte := s.cpuMem.read a

/-- The CPU memory window in order: the bytes FB_BASE + i for i below FB_BYTES (20_memory R55). -/
def State.window (s : State) : List Byte :=
  (List.range s.cfg.fbBytes).map fun i => s.memRead (s.cfg.fbBase + i)

/-- A command rejected for an out-of-range operand: ERR_RANGE is set and nothing else changes
(60_exceptions R201). -/
def State.reject (s : State) : State := s.flag .errRange

/-- A command word with a reserved opcode: ERR_CMD is set and nothing else changes (60_exceptions R202). -/
def State.rejectWord (s : State) : State := s.flag .errCmd

/-- The palette that the sixteen staging words stand for (41_palette_table R122). -/
def State.staged (s : State) : Palette := Vector.ofFn fun k : Fin 16 => Colour.ofWord s.palstage[k]

/-- A surface of W by H pixels of which none has a specified colour: free values of draw `draw`
(10_state R38; log 6). -/
def unspecifiedFrame (draw W H : Nat) : Frame :=
  (List.range H).map fun py => (List.range W).map fun px => Colour.ofWord (Config.unspecifiedPixel draw py px)

/-- The value WARP and SCAN store for a written word: `min(v[31:0], 256)` (10_state R30, R31). -/
def saturate (v : Word) : BitVec 9 := BitVec.ofNat 9 (min v.toNat 256)

/-- `RegRead(n)` of 10_state R27: write-only CMD and the reserved numbers read 0 (R28, R35). -/
def State.readReg (s : State) (n : Nat) : Word :=
  match n with
  | 0 => 0
  | 1 => s.status.setWidth 32
  | 2 => s.result
  | 3 => s.warp.setWidth 32
  | 4 => s.scan.setWidth 32
  | n => if h : 0x10 ≤ n ∧ n < 0x20 then s.palstage[n - 0x10]'(by omega) else 0

/-- `RegWrite(n, v)` of 10_state R27 for every number but CMD: STATUS, RESULT and the reserved numbers ignore
the write (R29, R32, R35), WARP and SCAN saturate (R30, R31), PALSTAGE stores all 32 bits (R33). -/
def State.writeReg (s : State) (n : Nat) (v : Word) : State :=
  match n with
  | 0 => s
  | 1 => s
  | 2 => s
  | 3 => s.setWarp (saturate v)
  | 4 => s.setScan (saturate v)
  | n => if h : 0x10 ≤ n ∧ n < 0x20 then s.setPalstage (s.palstage.set (n - 0x10) v (by omega)) else s

/-- The block's reset input (70_reset_and_hazards R220): every register and store of the block as after
reset, with fresh free values; CPU memory (R221), the configuration and the host keep what they have. -/
def State.blockReset (s : State) : State :=
  { State.resetOf s.cfg s.draws with
    cpuMem := s.cpuMem
    pending := s.pending
    readData := s.readData
    loop := s.loop
    cadence := s.cadence }

end Sys2Proof.Machine
end

