-- ==== Sys2Proof/Machine/Pixel.lean ====
section
/-! DEFINITION. The Display Decoder's per-pixel function, stage by stage (43_display_decoder R142 to R153), in
exact rationals (00_scope R12). -/

namespace Sys2Proof.Machine

/-- The centre of physical pixel number `n` along one axis (43_display_decoder R142). -/
def centreOf (n : Nat) : ℚ := (n : ℚ) + 1 / 2

/-- Coverage: the pixel's centre lies in the rectangle, left and top edges in, right and bottom edges out
(43_display_decoder R142). -/
abbrev Covered (vp : Rect) (px py : Nat) : Prop :=
  (vp.x ≤ centreOf px ∧ centreOf px < vp.x + vp.w) ∧ (vp.y ≤ centreOf py ∧ centreOf py < vp.y + vp.h)

/-- u of 43_display_decoder R143. -/
def normU (vp : Rect) (px : Nat) : ℚ := (centreOf px - vp.x) / vp.w

/-- v of 43_display_decoder R143. -/
def normV (vp : Rect) (py : Nat) : ℚ := (centreOf py - vp.y) / vp.h

/-- The strength in [0, 1] that WARP or SCAN stands for, `n/256` (10_state R30, R31). -/
def strength (n : BitVec 9) : ℚ := (n.toNat : ℚ) / 256

/-- One warped coordinate: `t` is pushed from the centre by a factor that grows with the square of the other
coordinate's distance `o` from the centre (43_display_decoder R144). -/
def warpCoord (k wp t o : ℚ) : ℚ := (t - 1 / 2) * (1 + (1 / 2 - o) ^ 2 * k * wp) + 1 / 2

/-- u' of 43_display_decoder R144. -/
def warpU (c : Cfg) (wp u v : ℚ) : ℚ := warpCoord c.kWarpX wp u v

/-- v' of 43_display_decoder R144. -/
def warpV (c : Cfg) (wp u v : ℚ) : ℚ := warpCoord c.kWarpY wp v u

/-- Not on the black border: both warped coordinates lie in the closed interval [0, 1]
(43_display_decoder R145). -/
abbrev InPicture (u v : ℚ) : Prop := (0 ≤ u ∧ u ≤ 1) ∧ (0 ≤ v ∧ v ≤ 1)

/-- The cell of a grid of `size` cells that a coordinate in [0, 1] falls in, the last one for 1 itself
(43_display_decoder R146). -/
def cellOf (size : Nat) (t : ℚ) : Nat := min ⌊t * (size : ℚ)⌋.toNat (size - 1)

/-- The colour index of logical pixel (lx, ly) as FBTEX holds it (43_display_decoder R148). -/
def State.texIndex (s : State) (lx ly : Nat) : BitVec 4 := unpack (s.texel ly (lx / 2)) lx

/-- The palette entry of logical pixel (lx, ly) as the decoder sees it (43_display_decoder R149). -/
def State.texColour (s : State) (lx ly : Nat) : Colour := s.paltex[paletteIndex (s.texIndex lx ly).toNat]

/-- SCANWAVE(py) of 00_scope R6, from the list of one period (log 3). -/
def scanWave (c : Cfg) (py : Nat) : ℚ := c.wave.getD (py % c.wave.length) 0

/-- The darkening fraction `a = K_SCAN * sc * SCANWAVE(py)` (43_display_decoder R150). -/
def darkening (c : Cfg) (scan : BitVec 9) (py : Nat) : ℚ := c.kScan * strength scan * scanWave c py

/-- Q of 43_display_decoder R152: to the nearest natural, halves upward. -/
def quantise (z : ℚ) : BitVec 8 := BitVec.ofNat 8 ⌊z + 1 / 2⌋.toNat

/-- One colour channel moved toward black by the fraction `a`, then quantised (43_display_decoder R151, R152). -/
def darkenChannel (v : BitVec 8) (a : ℚ) : BitVec 8 := quantise ((v.toNat : ℚ) * (1 - a))

/-- The three colour channels darkened; alpha passes (43_display_decoder R151, R152). -/
def darken (col : Colour) (a : ℚ) : Colour :=
  ⟨darkenChannel col.r a, darkenChannel col.g a, darkenChannel col.b a, col.a⟩

/-- What a pixel with warped coordinates (u', v') on surface row `py` shows (43_display_decoder R145 to R152). -/
def State.shade (s : State) (py : Nat) (u v : ℚ) : Colour :=
  if InPicture u v then
    darken (s.texColour (cellOf s.cfg.width u) (cellOf s.cfg.height v)) (darkening s.cfg s.scan py)
  else Colour.black

/-- DecodePixel(px, py) of 43_display_decoder R153. -/
def State.decodePixel (s : State) (px py : Nat) : Colour :=
  s.shade py
    (warpU s.cfg (strength s.warp) (normU s.vp px) (normV s.vp py))
    (warpV s.cfg (strength s.warp) (normU s.vp px) (normV s.vp py))

/-- The surface a DECODE writes: decoded where covered, unspecified elsewhere (43_display_decoder R141, R156). -/
def State.decodedFrame (s : State) : Frame :=
  (List.range s.surfH).map fun py => (List.range s.surfW).map fun px =>
    if Covered s.vp px py then s.decodePixel px py
    else Colour.ofWord (Config.unspecifiedPixel s.draws py px)

end Sys2Proof.Machine
end

