-- ==== Sys2Proof/Machine/Viewport.lean ====
section
/-! DEFINITION. The Viewport Mapper's arithmetic, exact (44_viewport_mapper R171 to R174, 00_scope R12). -/

namespace Sys2Proof.Machine

/-- The scale of the largest rectangle of the logical aspect ratio that fits: `min(W/WIDTH, H/HEIGHT)`
(44_viewport_mapper R172). -/
def fitScale (c : Cfg) (W H : Nat) : ℚ := min ((W : ℚ) / (c.width : ℚ)) ((H : ℚ) / (c.height : ℚ))

/-- The scale of the configured policy (44_viewport_mapper R172, R173). -/
def scaleOf (c : Cfg) (W H : Nat) : ℚ :=
  match c.policy with
  | .continuous => fitScale c W H
  | .integer => max 1 ((⌊fitScale c W H⌋ : ℤ) : ℚ)

/-- The rectangle of width w and height h centred in W by H (44_viewport_mapper R171). -/
def centred (W H : Nat) (w h : ℚ) : Rect := ⟨((W : ℚ) - w) / 2, ((H : ℚ) - h) / 2, w, h⟩

/-- VP as VPORT computes it; the degenerate test comes first (44_viewport_mapper R171, R174). -/
def viewport (c : Cfg) (W H : Nat) : Rect :=
  if W = 0 ∨ H = 0 then ⟨0, 0, 0, 0⟩
  else centred W H (scaleOf c W H * (c.width : ℚ)) (scaleOf c W H * (c.height : ℚ))

end Sys2Proof.Machine
end

