-- ==== Sys2Proof/Machine/Display.lean ====
section
/-! DEFINITION. DECODE (43_display_decoder) and VPORT (44_viewport_mapper). -/

namespace Sys2Proof.Machine

/-- DECODE (43_display_decoder R141): writes the surface and hands a copy to the present primitive. The swap
wait has no length (70_reset_and_hazards R235; log 14). -/
def execDecode (s : State) : Host.Outcome State Fault Refusal :=
  .next (((s.setSurf s.decodedFrame).setPresented (s.presented ++ [s.decodedFrame])).setDraws (s.draws + 1))

/-- The surface after a VPORT: the old one if the size stays, else unspecified everywhere
(44_viewport_mapper R171, 10_state R38). -/
def State.resizeSurf (s : State) (W H : Nat) : State :=
  if W ≠ s.surfW ∨ H ≠ s.surfH then (s.setSurf (unspecifiedFrame s.draws W H)).setDraws (s.draws + 1) else s

/-- VPORT (44_viewport_mapper R171). -/
def execVport (W H : Nat) (s : State) : Host.Outcome State Fault Refusal :=
  .next ((s.resizeSurf W H).setView W H (viewport s.cfg W H))

end Sys2Proof.Machine
end

