-- ==== Sys2Proof/Machine/Framebuffer.lean ====
section
/-! DEFINITION. The Packed Framebuffer commands (40_packed_framebuffer). Every meaning answers a next state. -/

namespace Sys2Proof.Machine

/-- SETPIX (40_packed_framebuffer R104). -/
def execSetpix (x y c8 : Nat) (s : State) : Host.Outcome State Fault Refusal :=
  .next (if inLogical s.cfg x y then
      s.setFb (s.fb.set (pixByte s.cfg x y) (pack (s.fbByte (pixByte s.cfg x y)) x (low4 c8)))
    else s.reject)

/-- GETPIX (40_packed_framebuffer R105). -/
def execGetpix (x y : Nat) (s : State) : Host.Outcome State Fault Refusal :=
  .next (if inLogical s.cfg x y then s.setResult ((s.pixel x y).setWidth 32) else s.reject)

/-- LOADFB (40_packed_framebuffer R107). -/
def execLoadfb (s : State) : Host.Outcome State Fault Refusal :=
  .next (s.setFb s.window)

end Sys2Proof.Machine
end

