-- ==== Sys2Proof/Machine/PaletteTable.lean ====
section
/-! DEFINITION. The Palette Table commands (41_palette_table). -/

namespace Sys2Proof.Machine

/-- COLORAT (41_palette_table R121). -/
def execColorat (idx8 : Nat) (s : State) : Host.Outcome State Fault Refusal :=
  .next (s.setResult (s.pal[paletteIndex idx8]).toWord)

/-- LOADPAL (41_palette_table R122): all sixteen entries in one step. -/
def execLoadpal (s : State) : Host.Outcome State Fault Refusal :=
  .next (s.setPal s.staged)

end Sys2Proof.Machine
end

