-- ==== Sys2Proof/Machine/Texture.lean ====
section
/-! DEFINITION. The framebuffer-to-texture pipeline commands (42_texture_pipeline). -/

namespace Sys2Proof.Machine

/-- UPLOADFB (42_texture_pipeline R131): a row range that leaves the texture is rejected whole. -/
def execUploadfb (y0 n : Nat) (s : State) : Host.Outcome State Fault Refusal :=
  .next (if y0 + n > s.cfg.height then s.reject
    else s.setFbtex (s.fbtex.mapIdx fun r row => if y0 ≤ r ∧ r < y0 + n then s.fbRow r else row))

/-- UPLOADPAL (42_texture_pipeline R133). -/
def execUploadpal (s : State) : Host.Outcome State Fault Refusal :=
  .next (s.setPaltex s.pal)

end Sys2Proof.Machine
end

