-- ==== Sys2Proof/Machine/Dispatch.lean ====
section
/-! DEFINITION. The dispatch of commands to their meanings (30_encoding R84). -/

namespace Sys2Proof.Machine

/-- Executes one command of the block, whole (20_memory R62). -/
def exec (i : Instr) (s : State) : Host.Outcome State Fault Refusal :=
  match i with
  | .setpix x y c8 => Sys2Proof.Machine.execSetpix x y c8 s
  | .getpix x y => Sys2Proof.Machine.execGetpix x y s
  | .loadfb => Sys2Proof.Machine.execLoadfb s
  | .colorat idx8 => Sys2Proof.Machine.execColorat idx8 s
  | .loadpal => Sys2Proof.Machine.execLoadpal s
  | .uploadfb y0 n => Sys2Proof.Machine.execUploadfb y0 n s
  | .uploadpal => Sys2Proof.Machine.execUploadpal s
  | .decode => Sys2Proof.Machine.execDecode s
  | .vport W H => Sys2Proof.Machine.execVport W H s

end Sys2Proof.Machine
end

