-- ==== Sys2Proof/Machine/Events.lean ====
section
/-! DEFINITION. What one event does: a register access of the host (10_state R27), or an event of the
environment (60_exceptions R207). `s` is the state with the event already taken from `pending`. -/

namespace Sys2Proof.Machine

/-- A word written to REG.CMD is decoded first; a reserved opcode sets ERR_CMD and nothing else is examined
(10_state R28, 30_encoding R87, 60_exceptions R208). -/
def runCommand (w : Word) (s : State) : Host.Outcome State Fault Refusal :=
  match decodeWord w with
  | .ok i => exec i s
  | .error _ => .next s.rejectWord

/-- `RegWrite(n, v)` of 10_state R27. -/
def busWrite (n : Nat) (v : Word) (s : State) : Host.Outcome State Fault Refusal :=
  match n with
  | 0 => runCommand v s
  | n + 1 => .next (s.writeReg (n + 1) v)

/-- `RegRead(n)` of 10_state R27: the host gets the value, and no register or store changes. -/
def busRead (n : Nat) (s : State) : Host.Outcome State Fault Refusal :=
  .next (s.setReadData (s.readReg n))

/-- A call of the CPU collaborator: CPU memory changes as the environment says (20_memory R68); an address
outside CPU memory does not exist (R50; log 12). -/
def cpuCall (writes : List Host.Cell) (s : State) : Host.Outcome State Fault Refusal :=
  match writes.find? (fun c => !cpuAddress s.cfg c.1) with
  | some c => .fault (.noSuchCpuAddress c.1)
  | none => .next (s.setCpuMem (s.cpuMem.writeAll writes))

/-- A resize notification: the host issues VPORT with the new size, unless it has terminated
(60_exceptions R207, 45_presentation_loop R183; log 19). -/
def onResize (W H : BitVec 14) (s : State) : State :=
  match s.loop with
  | .terminated => s
  | .running => s.setPending (command (.vport W.toNat H.toNat) :: s.pending)
  | .paused => s.setPending (command (.vport W.toNat H.toNat) :: s.pending)

/-- Running to Paused/Hidden and back (45_presentation_loop R182); nothing follows termination. -/
def onVisibility (visible : Bool) (s : State) : State :=
  match s.loop with
  | .terminated => s
  | .running => if visible then s else s.setLoop .paused
  | .paused => if visible then s.setLoop .running else s

/-- The top of the loop. Running: the cadence is computed and the actions of steps 3 to 6 come next, before
anything else that is pending, so that no event falls into the frame (45_presentation_loop R181, R183).
Paused or terminated: none of the six steps (R182). -/
def onIterate (it : Iteration) (s : State) : State :=
  match s.loop with
  | .running =>
    (s.setCadence (some (it.cadence s.cfg))).setPending (it.actions (it.cadence s.cfg).budget ++ s.pending)
  | .paused => s
  | .terminated => s

/-- The loop ends: no further command is issued (45_presentation_loop R183; log 11). -/
def onTermination (s : State) : State := (s.setLoop .terminated).setPending []

/-- What one event does. -/
def handle (e : Event) (s : State) : Host.Outcome State Fault Refusal :=
  match e with
  | .regWrite n v => busWrite n v s
  | .regRead n => busRead n s
  | .cpu _ writes => cpuCall writes s
  | .blockReset => .next s.blockReset
  | .resize W H => .next (onResize W H s)
  | .visibility visible => .next (onVisibility visible s)
  | .iterate it => .next (onIterate it s)
  | .close => .next (onTermination s)
  | .startupFailure => .next (onTermination s)

/-- One step: the next pending event, or nothing where none is pending, since the block has no agent of its
own (20_memory R62; log 8). Frame work that comes up while the host is paused is skipped: the host does not make
that access, so nothing reaches the block (45_presentation_loop R182; log 25). -/
def stepEvent (s : State) : Host.Outcome State Fault Refusal :=
  match s.pending with
  | [] => .next s
  | e :: rest => if heldBack s.loop e then .next (s.setPending rest) else handle e (s.setPending rest)

/-- The state in which the host is Running and its next action writes the word `w` of `nbits` bits to REG.CMD
(log 8). -/
def State.issueWord (s : State) (nbits w : Nat) : State :=
  (s.setLoop .running).setPending (.regWrite 0 (BitVec.ofNat 32 (w % 2 ^ nbits)) :: s.pending)

end Sys2Proof.Machine
end

