-- ==== Sys2Proof/Machine/Step.lean ====
section
/-! DEFINITION. The step of the machine: one register access or one event (20_memory R62). -/

namespace Sys2Proof.Machine

/-- One step. -/
def step (s : State) : Host.Outcome State Fault Refusal := stepEvent s

/-- The state whose very next step issues the command word `w`: that write comes first, by a Running host, and
nothing else is changed. -/
def State.withFetchWord (s : State) (nbits w : Nat) : State := s.issueWord nbits w

end Sys2Proof.Machine
end

