-- ==== Sys2Proof/Safety.lean ====
section
/-! DEFINITION. What counts as a good state and a safe input, in the terms the statements use. -/

namespace Sys2Proof.Machine

/-- FB has FB_BYTES bytes and FBTEX has HEIGHT rows of WIDTH/2 bytes (10_state R22, R25). -/
abbrev State.StoresShaped (s : State) : Prop :=
  s.fb.length = s.cfg.fbBytes ∧ s.fbtex.length = s.cfg.height ∧ ∀ row ∈ s.fbtex, row.length = rowBytes s.cfg

/-- WARP and SCAN hold 0 to 256 (10_state R30, R31). -/
abbrev State.StrengthsLegal (s : State) : Prop := s.warp.toNat ≤ 256 ∧ s.scan.toNat ≤ 256

/-- A surface of at most 16383 by 16383 with SURF_H rows of SURF_W colours, and VP the Mapper's rectangle for
that size (10_state R36 to R38, 44_viewport_mapper R171). -/
abbrev State.SurfaceShaped (s : State) : Prop :=
  (s.surfW ≤ 16383 ∧ s.surfH ≤ 16383) ∧
  (s.surf.length = s.surfH ∧ ∀ row ∈ s.surf, row.length = s.surfW) ∧
  s.vp = viewport s.cfg s.surfW s.surfH

/-- CPU memory is in canonical form and lists only addresses that exist (20_memory R50). -/
abbrev State.CpuMemoryLegal (s : State) : Prop :=
  s.cpuMem.wf ∧ ∀ c ∈ s.cpuMem, c.1 < 2 ^ s.cfg.addrBits

/-- R is at least 1 and the budget is the one R gives (45_presentation_loop R185, R186). -/
abbrev State.CadenceLegal (s : State) : Prop :=
  match s.cadence with
  | none => True
  | some k => 1 ≤ k.refresh ∧ k.budget = cycleBudget s.cfg k.refresh

/-- The invariant of the machine: holds at reset, and every step keeps it. -/
abbrev State.Inv (s : State) : Prop :=
  s.StoresShaped ∧ s.StrengthsLegal ∧ s.SurfaceShaped ∧ s.CpuMemoryLegal ∧ s.CadenceLegal

/-- Every register and internal scalar holds the value of 10_state R41. -/
abbrev State.HasResetValues (s : State) : Prop :=
  s.status = 0 ∧ s.result = 0 ∧ s.warp = 0 ∧ s.scan = 0 ∧ s.vp = ⟨0, 0, 0, 0⟩ ∧ s.surfW = 0 ∧ s.surfH = 0 ∧
  s.presented = []

/-- The colour of pixel (px, py) of a surface, none outside it (10_state R38). -/
def Frame.colourAt (f : Frame) (px py : Nat) : Option Colour :=
  match f[py]? with
  | none => none
  | some row => row[px]?

/-- Two surfaces show the same at every pixel the rectangle covers; frames are compared there only
(93_implementation_defined U5). -/
def SameWhereCovered (vp : Rect) (f g : Frame) : Prop :=
  ∀ px py, Covered vp px py → Frame.colourAt f px py = Frame.colourAt g px py

/-- The two states hold the same in everything DECODE reads (43_display_decoder R140, R153). -/
abbrev SameDecoderInputs (s t : State) : Prop :=
  t.cfg = s.cfg ∧ t.vp = s.vp ∧ t.surfW = s.surfW ∧ t.surfH = s.surfH ∧ t.warp = s.warp ∧ t.scan = s.scan ∧
  t.fbtex = s.fbtex ∧ t.paltex = s.paltex

/-- Several commands, each to completion, in order (20_memory R62). -/
def execAll (is : List Instr) (s : State) : Host.Outcome State Fault Refusal :=
  match is with
  | [] => .next s
  | i :: rest =>
    match exec i s with
    | .next t => execAll rest t
    | .fault f => .fault f
    | .refused r => .refused r

/-- `n` steps of the machine, stopping at the first that does not answer a next state. -/
def steps (n : Nat) (s : State) : Host.Outcome State Fault Refusal :=
  match n with
  | 0 => .next s
  | n + 1 =>
    match step s with
    | .next t => steps n t
    | .fault f => .fault f
    | .refused r => .refused r

/-- The bytes an event changes in CPU memory exist: the only obligation whose breach stops the machine. -/
abbrev Event.Safe (c : Cfg) (e : Event) : Prop :=
  match e with
  | .cpu _ writes => ∀ w ∈ writes, w.1 < 2 ^ c.addrBits
  | .iterate it => ∀ w ∈ it.cpuWrites, w.1 < 2 ^ c.addrBits
  | _ => True

/-- Row `r` is among the rows an iteration uploads. -/
abbrev Iteration.Uploads (it : Iteration) (r : Nat) : Prop :=
  ∃ u ∈ it.uploads, u.y0.toNat ≤ r ∧ r < u.y0.toNat + u.n.toNat

/-- The host's obligation in step 5 (45_presentation_loop R181): where FB after LOADFB differs from FBTEX the
row is uploaded, and UPLOADPAL is left out only while PALTEX equals PAL. `s` is the state after LOADFB. -/
def Iteration.CoversChanges (it : Iteration) (s : State) : Prop :=
  (∀ r, r < s.cfg.height → s.fbtex[r]? ≠ some (s.fbRow r) → it.Uploads r) ∧
  (it.uploadPal = false → s.paltex = s.pal)

/-- The frame's commands, of which a paused host issues none (45_presentation_loop R182, 60_exceptions R213). -/
abbrev FrameCommand (i : Instr) : Prop :=
  i = .loadfb ∨ (∃ y0 n, i = .uploadfb y0 n) ∨ i = .uploadpal ∨ i = .decode

/-- The reserved opcodes of 30_encoding R87, as the number in bits 31:28. -/
abbrev ReservedOpcode (op : Nat) : Prop := op = 0 ∨ (10 ≤ op ∧ op ≤ 15)

end Sys2Proof.Machine
end

