-- ==== Sys2Proof/Certificates/Slice0/Obligations.lean ====
section
/-! DEFINITION. The statements for the provers, in the order of the spec's files. Each docstring names the rule
it formalises. -/

open Sys2Proof Sys2Proof.Machine

/-! ### Encoding (30_encoding) -/

/-- Decode and encode agree: the decoder reads every well-formed command back from its word (30_encoding R81
to R85). -/
def Obligations.EncodeThenDecodeIsIdentity : Prop :=
  ∀ i : Instr, i.WellFormed → decodeWord (encode i) = .ok i

/-- 30_encoding R84, R88: a word is a command exactly when its top four bits are 1 to 9, its `w & mask` is then
the `match` of the row, and the command read from it is well formed. Every other word is a reserved opcode,
which the decoder names. -/
def Obligations.WordIsCommandExactlyWhenItMatches : Prop :=
  ∀ w : Word,
    ((∃ i, decodeWord w = .ok i) ↔ 1 ≤ w.toNat / 2 ^ 28 ∧ w.toNat / 2 ^ 28 ≤ 9) ∧
    (∀ i, decodeWord w = .ok i → i.WellFormed ∧ w &&& 0xF0000000 = BitVec.ofNat 32 (i.opcode * 2 ^ 28)) ∧
    (∀ e, decodeWord w = .error e → e = .reservedOpcode (BitVec.ofNat 4 (w.toNat / 2 ^ 28)))

/-- 30_encoding R81 to R83: each command's operands are the unsigned numbers in the bits its format names, for
every value of every other bit; the c8 field of GETPIX is reserved. -/
def Obligations.FieldsAreReadFromTheFormats : Prop :=
  ∀ (w : Word) (v : Nat), v = w.toNat →
    (v / 2 ^ 28 = 0x1 → decodeWord w = .ok (.setpix (v % 2 ^ 10) (v / 2 ^ 10 % 2 ^ 10) (v / 2 ^ 20 % 2 ^ 8))) ∧
    (v / 2 ^ 28 = 0x2 → decodeWord w = .ok (.getpix (v % 2 ^ 10) (v / 2 ^ 10 % 2 ^ 10))) ∧
    (v / 2 ^ 28 = 0x3 → decodeWord w = .ok .loadfb) ∧
    (v / 2 ^ 28 = 0x4 → decodeWord w = .ok (.colorat (v % 2 ^ 8))) ∧
    (v / 2 ^ 28 = 0x5 → decodeWord w = .ok .loadpal) ∧
    (v / 2 ^ 28 = 0x6 → decodeWord w = .ok (.uploadfb (v % 2 ^ 11) (v / 2 ^ 11 % 2 ^ 11))) ∧
    (v / 2 ^ 28 = 0x7 → decodeWord w = .ok .uploadpal) ∧
    (v / 2 ^ 28 = 0x8 → decodeWord w = .ok .decode) ∧
    (v / 2 ^ 28 = 0x9 → decodeWord w = .ok (.vport (v % 2 ^ 14) (v / 2 ^ 14 % 2 ^ 14)))

/-- 30_encoding R86: a word that differs from a command's word only in bits that its format reserves is the
same command, and the encoder writes those bits as 0. -/
def Obligations.ReservedBitsAreIgnored : Prop :=
  ∀ (w v : Word) (i : Instr), decodeWord w = .ok i → v &&& i.usedBits = w &&& i.usedBits →
    decodeWord v = .ok i ∧ encode i = w &&& i.usedBits

/-- Words written out bit by bit from the formats of 30_encoding R81 to R83, one per command, decode to the
commands they stand for (95_test_vectors EN1 to EN13). -/
def Obligations.WordsWrittenFromTheFormatsDecode : Prop :=
  decodeWord (0b0001#4 ++ 0b00011011#8 ++ 0b0000000010#10 ++ 0b0000000101#10) = .ok (.setpix 5 2 0x1B) ∧
  decodeWord (0b0010#4 ++ 0b00000000#8 ++ 0b0000000010#10 ++ 0b0000000101#10) = .ok (.getpix 5 2) ∧
  decodeWord (0b0011#4 ++ 0#28) = .ok .loadfb ∧
  decodeWord (0b0100#4 ++ 0#20 ++ 0b00010011#8) = .ok (.colorat 0x13) ∧
  decodeWord (0b0101#4 ++ 0#28) = .ok .loadpal ∧
  decodeWord (0b0110#4 ++ 0#6 ++ 0b00000000001#11 ++ 0b00000000010#11) = .ok (.uploadfb 2 1) ∧
  decodeWord (0b0111#4 ++ 0#28) = .ok .uploadpal ∧
  decodeWord (0b1000#4 ++ 0#28) = .ok .decode ∧
  decodeWord (0b1001#4 ++ 0b00001001011000#14 ++ 0b00001100100000#14) = .ok (.vport 800 600)

/-! ### Steps, flags and rejection (10_state, 60_exceptions) -/

/-- 10_state R28, 20_memory R62, 45_presentation_loop R182: when the host's next action writes a command's word to
REG.CMD, the step takes it from the queue and is exec of that command; around exec the step adds nothing else. A
paused host does not issue the frame's commands: the step then takes the action from the queue and nothing reaches
the block (that it is skipped, not kept for later, is log 25). -/
def Obligations.StepRunsTheDecodedCommand : Prop :=
  ∀ (s : State) (w : Word) (rest : List Event) (i : Instr),
    s.pending = .regWrite 0 w :: rest → decodeWord w = .ok i →
      i.WellFormed ∧
      (s.loop ≠ .paused ∨ ¬FrameCommand i → step s = exec i (s.setPending rest)) ∧
      (s.loop = .paused → FrameCommand i → step s = .next (s.setPending rest))

/-- 30_encoding R87, 60_exceptions R202: a word with a reserved opcode sets ERR_CMD (bit 1 of STATUS) and
changes nothing else, whatever its other 28 bits are. -/
def Obligations.ReservedOpcodeOnlySetsErrCmd : Prop :=
  ∀ (s : State) (w : Word) (rest : List Event),
    s.pending = .regWrite 0 w :: rest → ReservedOpcode (w.toNat / 2 ^ 28) →
      step s = .next ((s.setPending rest).setStatus (s.status ||| 2))

/-- 60_exceptions R201: SETPIX and GETPIX outside the logical size and UPLOADFB of rows that leave the texture
set ERR_RANGE (bit 0 of STATUS) and change nothing else. -/
def Obligations.OutOfRangeOperandOnlySetsErrRange : Prop :=
  ∀ (s : State) (x y c8 y0 n : Nat),
    ((s.cfg.width ≤ x ∨ s.cfg.height ≤ y) →
      exec (.setpix x y c8) s = .next (s.setStatus (s.status ||| 1)) ∧
      exec (.getpix x y) s = .next (s.setStatus (s.status ||| 1))) ∧
    (s.cfg.height < y0 + n → exec (.uploadfb y0 n) s = .next (s.setStatus (s.status ||| 1)))

/-- 60_exceptions R208, R209: a command either leaves STATUS as it was, or is rejected and then has no effect
but ERR_RANGE; no command sets ERR_CMD. -/
def Obligations.RejectedCommandHasNoOtherEffect : Prop :=
  ∀ (i : Instr) (s t : State), exec i s = .next t →
    t.status = s.status ∨ t = s.setStatus (s.status ||| 1)

/-- 10_state R29: both flags are sticky: no step but a reset clears one. -/
def Obligations.FlagsStaySetUntilReset : Prop :=
  ∀ s t : State, step s = .next t → (∀ rest, s.pending ≠ .blockReset :: rest) →
    s.status &&& t.status = s.status

/-! ### Packed Framebuffer (20_memory, 40_packed_framebuffer) -/

/-- 20_memory R52, 40_packed_framebuffer R101: a logical pixel lies inside FB, in the row's bytes, and its parity
within the byte is that of x; two pixels share a byte exactly when they are a pair of one row. -/
def Obligations.PixelAddressesLieInFb : Prop :=
  ∀ (c : Cfg) (x y : Nat), x < c.width → y < c.height →
    pixByte c x y < c.fbBytes ∧ (y * c.width + x) % 2 = x % 2 ∧
    pixByte c x y = y * (c.width / 2) + x / 2 ∧
    ∀ x' y', x' < c.width → y' < c.height →
      (pixByte c x' y' = pixByte c x y ↔ y' = y ∧ x' / 2 = x / 2)

/-- 20_memory R58: Unpack and Pack read and write the nibble R57 names, and a pack never disturbs the other
nibble. -/
def Obligations.PackWritesOneNibble : Prop :=
  ∀ (b : Byte) (x v : Nat),
    (unpack b x).toNat = (if x % 2 = 0 then b.toNat / 16 else b.toNat % 16) ∧
    (pack b x v).toNat = (if x % 2 = 0 then v % 16 * 16 + b.toNat % 16 else b.toNat / 16 * 16 + v % 16) ∧
    (unpack (pack b x v) x).toNat = v % 16 ∧
    (x % 2 = 0 → unpack (pack b x v) (x + 1) = unpack b (x + 1)) ∧
    (x % 2 = 1 → unpack (pack b x v) (x - 1) = unpack b (x - 1))

/-- 40_packed_framebuffer R104: an in-range SETPIX stores `c8 & 0xF` as the pixel, leaves every other pixel and
every other byte of FB as it was, and changes nothing but FB. -/
def Obligations.SetpixStoresOnePixel : Prop :=
  ∀ (s : State) (x y c8 : Nat), s.fb.length = s.cfg.fbBytes → x < s.cfg.width → y < s.cfg.height →
    ∃ t, exec (.setpix x y c8) s = .next t ∧ t = s.setFb t.fb ∧ t.fb.length = s.fb.length ∧
      (t.pixel x y).toNat = c8 % 16 ∧
      (∀ x' y', x' < s.cfg.width → y' < s.cfg.height → ¬(x' = x ∧ y' = y) → t.pixel x' y' = s.pixel x' y') ∧
      (∀ a, pixByte s.cfg x y ≠ a → t.fbByte a = s.fbByte a)

/-- 40_packed_framebuffer R105: GETPIX puts the pixel's 4 bits, zero-extended, into RESULT and changes nothing
else; outside the logical size it sets ERR_RANGE and RESULT keeps its value. Its words are those of opcode 2. -/
def Obligations.GetpixReturnsThePixel : Prop :=
  (∀ (s : State) (x y : Nat),
    exec (.getpix x y) s = .next
      (if s.cfg.width ≤ x ∨ s.cfg.height ≤ y then s.setStatus (s.status ||| 1)
       else s.setResult (BitVec.ofNat 32
         (if x % 2 = 0 then (s.fbByte ((y * s.cfg.width + x) / 2)).toNat / 16
          else (s.fbByte ((y * s.cfg.width + x) / 2)).toNat % 16)))) ∧
  ∀ w : Word, w.toNat / 2 ^ 28 = 2 →
    decodeWord w = .ok (.getpix (w.toNat % 2 ^ 10) (w.toNat / 2 ^ 10 % 2 ^ 10))

/-- 40_packed_framebuffer R106: GETPIX after SETPIX gives the colour set, and for every other pixel what it gave
before. -/
def Obligations.GetpixAfterSetpix : Prop :=
  ∀ (s : State) (x y c8 : Nat), s.fb.length = s.cfg.fbBytes → x < s.cfg.width → y < s.cfg.height →
    ∃ t u, exec (.setpix x y c8) s = .next t ∧ exec (.getpix x y) t = .next u ∧
      u.result = BitVec.ofNat 32 (c8 &&& 0xF) ∧
      ∀ x' y', x' < s.cfg.width → y' < s.cfg.height → ¬(x' = x ∧ y' = y) →
        ∃ a b, exec (.getpix x' y') t = .next a ∧ exec (.getpix x' y') s = .next b ∧ a.result = b.result

/-- 40_packed_framebuffer R106: a row written pixel by pixel from left to right reads back as it was written,
whatever the row held and whatever the colours are. -/
def Obligations.ScanlineRoundTrip : Prop :=
  ∀ (s : State) (y : Nat) (colours : Nat → Nat), s.fb.length = s.cfg.fbBytes → y < s.cfg.height →
    ∃ t, execAll ((List.range s.cfg.width).map fun x => .setpix x y (colours x)) s = .next t ∧
      t = s.setFb t.fb ∧
      ∀ x, x < s.cfg.width → ∃ u, exec (.getpix x y) t = .next u ∧ u.result.toNat = colours x % 16

/-- 40_packed_framebuffer R107: LOADFB replaces every byte of FB by the byte of the CPU memory window it
corresponds to, and changes nothing else. Its words are those of opcode 3. -/
def Obligations.LoadfbCopiesTheWindow : Prop :=
  (∀ s : State, ∃ t, exec .loadfb s = .next t ∧ t = s.setFb t.fb ∧ t.fb.length = s.cfg.fbBytes ∧
    ∀ i, i < s.cfg.fbBytes → t.fb[i]? = some (s.cpuMem.read (s.cfg.fbBase + i))) ∧
  ∀ w : Word, w.toNat / 2 ^ 28 = 3 → decodeWord w = .ok .loadfb

/-- 40_packed_framebuffer R100: the three Packed Framebuffer commands write nothing but FB, RESULT (GETPIX only)
and STATUS, and the size of FB never changes. -/
def Obligations.FramebufferCommandsWriteOnlyTheirOwn : Prop :=
  ∀ (s t : State) (i : Instr), s.fb.length = s.cfg.fbBytes → exec i s = .next t →
    ((∃ x y c8, i = .setpix x y c8) ∨ (∃ x y, i = .getpix x y) ∨ i = .loadfb) →
      t = ((s.setFb t.fb).setResult t.result).setStatus t.status ∧ t.fb.length = s.fb.length ∧
      ((∀ x y, i ≠ .getpix x y) → t.result = s.result)

/-! ### Palette Table (10_state, 41_palette_table) -/

/-- 10_state R34: the colour word reads 0xRRGGBBAA, and the two conversions are inverse. -/
def Obligations.ColourWordLayout : Prop :=
  (∀ c : Colour, c.toWord.toNat = c.r.toNat * 2 ^ 24 + c.g.toNat * 2 ^ 16 + c.b.toNat * 2 ^ 8 + c.a.toNat) ∧
  (∀ c : Colour, Colour.ofWord c.toWord = c) ∧ ∀ w : Word, (Colour.ofWord w).toWord = w

/-- 41_palette_table R121: COLORAT puts the colour word of PAL[idx8 & 0xF] into RESULT, for every idx8, and
changes nothing else. Its words are those of opcode 4. -/
def Obligations.ColoratReturnsThePaletteEntry : Prop :=
  (∀ (s : State) (idx8 : Nat) (k : Fin 16), k.val = idx8 % 16 →
    exec (.colorat idx8) s = .next (s.setResult s.pal[k].toWord)) ∧
  ∀ w : Word, w.toNat / 2 ^ 28 = 4 → decodeWord w = .ok (.colorat (w.toNat % 2 ^ 8))

/-- 41_palette_table R122: LOADPAL replaces all sixteen entries of PAL by the staging words at once, and changes
nothing else. Its words are those of opcode 5. -/
def Obligations.LoadpalReplacesTheWholeTable : Prop :=
  (∀ s : State, ∃ t, exec .loadpal s = .next t ∧ t = s.setPal t.pal ∧
    ∀ k : Fin 16, t.pal[k].toWord = s.palstage[k]) ∧
  ∀ w : Word, w.toNat / 2 ^ 28 = 5 → decodeWord w = .ok .loadpal

/-! ### Texture pipeline (42_texture_pipeline) -/

/-- 42_texture_pipeline R131: an UPLOADFB within the texture copies the named rows of FB, whole bytes, leaves the
other rows of FBTEX as they were, and changes nothing else. -/
def Obligations.UploadfbCopiesRows : Prop :=
  ∀ (s : State) (y0 n : Nat), s.fbtex.length = s.cfg.height → y0 + n ≤ s.cfg.height →
    ∃ t, exec (.uploadfb y0 n) s = .next t ∧ t = s.setFbtex t.fbtex ∧ t.fbtex.length = s.fbtex.length ∧
      (∀ r k, y0 ≤ r → r < y0 + n → k < s.cfg.width / 2 →
        t.texel r k = s.fbByte (r * (s.cfg.width / 2) + k)) ∧
      (∀ r, ¬(y0 ≤ r ∧ r < y0 + n) → t.fbtex[r]? = s.fbtex[r]?)

/-- 42_texture_pipeline R131, 20_memory R53: UPLOADFB.ALL makes FBTEX equal to FB everywhere, so the decoder
reads for every logical pixel what GETPIX reads. -/
def Obligations.UploadAllShowsTheFramebuffer : Prop :=
  ∀ s : State, s.fbtex.length = s.cfg.height →
    ∃ t, exec (uploadAll s.cfg) s = .next t ∧ t = s.setFbtex t.fbtex ∧
      ∀ x y, x < s.cfg.width → y < s.cfg.height → t.texIndex x y = s.pixel x y

/-- 42_texture_pipeline R133: UPLOADPAL makes all sixteen entries of PALTEX those of PAL and changes nothing
else. Its words are those of opcode 7. -/
def Obligations.UploadpalCopiesThePalette : Prop :=
  (∀ s : State, exec .uploadpal s = .next (s.setPaltex s.pal)) ∧
  ∀ w : Word, w.toNat / 2 ^ 28 = 7 → decodeWord w = .ok .uploadpal

/-! ### Display Decoder (43_display_decoder) -/

/-- 43_display_decoder R141: DECODE writes the surface, each covered pixel with DecodePixel, hands a copy of it
to the presentation history, and changes nothing else (but the count of the model's free values, log 6). -/
def Obligations.DecodePresentsTheDecodedFrame : Prop :=
  ∀ s : State, ∃ t, exec .decode s = .next t ∧
    t = ((s.setSurf t.surf).setPresented (s.presented ++ [t.surf])).setDraws t.draws ∧
    t.surf.length = s.surfH ∧ (∀ row ∈ t.surf, row.length = s.surfW) ∧
    ∀ px py, px < s.surfW → py < s.surfH → Covered s.vp px py →
      Frame.colourAt t.surf px py = some (s.decodePixel px py)

/-- 43_display_decoder R153: DecodePixel is the composition of the stages, written out. -/
def Obligations.DecodePixelIsTheWholeFunction : Prop :=
  ∀ (s : State) (px py : Nat) (u v u' v' a : ℚ),
    u = ((px : ℚ) + 1 / 2 - s.vp.x) / s.vp.w → v = ((py : ℚ) + 1 / 2 - s.vp.y) / s.vp.h →
    u' = (u - 1 / 2) * (1 + (1 / 2 - v) ^ 2 * s.cfg.kWarpX * ((s.warp.toNat : ℚ) / 256)) + 1 / 2 →
    v' = (v - 1 / 2) * (1 + (1 / 2 - u) ^ 2 * s.cfg.kWarpY * ((s.warp.toNat : ℚ) / 256)) + 1 / 2 →
    a = s.cfg.kScan * ((s.scan.toNat : ℚ) / 256) * scanWave s.cfg py →
    (u' < 0 ∨ 1 < u' ∨ v' < 0 ∨ 1 < v' → s.decodePixel px py = ⟨0, 0, 0, 255⟩) ∧
    ∀ (lx ly : Nat) (k : Fin 16), 0 ≤ u' → u' ≤ 1 → 0 ≤ v' → v' ≤ 1 →
      lx = min ⌊u' * (s.cfg.width : ℚ)⌋.toNat (s.cfg.width - 1) →
      ly = min ⌊v' * (s.cfg.height : ℚ)⌋.toNat (s.cfg.height - 1) →
      k.val = (if lx % 2 = 0 then (s.texel ly (lx / 2)).toNat / 16 else (s.texel ly (lx / 2)).toNat % 16) →
      s.decodePixel px py =
        ⟨quantise ((s.paltex[k].r.toNat : ℚ) * (1 - a)), quantise ((s.paltex[k].g.toNat : ℚ) * (1 - a)),
          quantise ((s.paltex[k].b.toNat : ℚ) * (1 - a)), s.paltex[k].a⟩

/-- 43_display_decoder R155: with WARP = 0 and SCAN = 0 a covered pixel shows, bit for bit, the palette entry of
the logical pixel at the floor of the unwarped coordinates. -/
def Obligations.FilterOffIsAPureLookup : Prop :=
  ∀ (s : State) (px py lx ly : Nat), s.warp = 0 → s.scan = 0 → Covered s.vp px py →
    (lx : ℤ) = ⌊normU s.vp px * (s.cfg.width : ℚ)⌋ → (ly : ℤ) = ⌊normV s.vp py * (s.cfg.height : ℚ)⌋ →
      s.decodePixel px py = s.texColour lx ly

/-- 43_display_decoder R155: under the integer policy with scale k and a viewport inside the surface, logical
pixel (x, y) fills exactly one block of k by k physical pixels; with the filter off each of them shows it. -/
def Obligations.IntegerScaleFillsSquareBlocks : Prop :=
  ∀ (s : State) (k x y px py : Nat), s.cfg.policy = .integer → 1 ≤ k →
    k = min (s.surfW / s.cfg.width) (s.surfH / s.cfg.height) → s.vp = viewport s.cfg s.surfW s.surfH →
    x < s.cfg.width → y < s.cfg.height →
      ((Covered s.vp px py ∧ cellOf s.cfg.width (normU s.vp px) = x ∧ cellOf s.cfg.height (normV s.vp py) = y) ↔
        ((s.surfW - k * s.cfg.width) / 2 + k * x ≤ px ∧ px < (s.surfW - k * s.cfg.width) / 2 + k * x + k) ∧
        ((s.surfH - k * s.cfg.height) / 2 + k * y ≤ py ∧ py < (s.surfH - k * s.cfg.height) / 2 + k * y + k)) ∧
      (s.warp = 0 → s.scan = 0 →
        (s.surfW - k * s.cfg.width) / 2 + k * x ≤ px → px < (s.surfW - k * s.cfg.width) / 2 + k * x + k →
        (s.surfH - k * s.cfg.height) / 2 + k * y ≤ py → py < (s.surfH - k * s.cfg.height) / 2 + k * y + k →
          px < s.surfW ∧ py < s.surfH ∧ s.decodePixel px py = s.texColour x y)

/-- 43_display_decoder R144: the warp is the identity at strength 0, leaves the centre and the two centre lines
where they are, and otherwise pushes each coordinate away from 1/2, on its own side, by a factor of at most
1 + K/4 times the strength. -/
def Obligations.WarpPushesAwayFromTheCentre : Prop :=
  ∀ (k wp t o : ℚ), 0 ≤ k → 0 ≤ wp → 0 ≤ o → o ≤ 1 →
    warpCoord k 0 t o = t ∧ warpCoord k wp (1 / 2) o = 1 / 2 ∧ warpCoord k wp t (1 / 2) = t ∧
    |t - 1 / 2| ≤ |warpCoord k wp t o - 1 / 2| ∧
    |warpCoord k wp t o - 1 / 2| ≤ (1 + k / 4 * wp) * |t - 1 / 2| ∧
    0 ≤ (warpCoord k wp t o - 1 / 2) * (t - 1 / 2)

/-- 43_display_decoder R146: a coordinate of [0, 1] is mapped to the one cell that contains it, the last cell for
1 itself, and always to a cell that exists. -/
def Obligations.NearestCellContainsTheCoordinate : Prop :=
  ∀ (size : Nat) (t : ℚ), 1 ≤ size → 0 ≤ t → t ≤ 1 →
    cellOf size t < size ∧ (t = 1 → cellOf size t = size - 1) ∧
    (t < 1 → ∀ j : Nat, cellOf size t = j ↔ (j : ℚ) / size ≤ t ∧ t < ((j : ℚ) + 1) / size)

/-- 43_display_decoder R150: the darkening fraction lies in [0, K_SCAN], is 0 with SCAN = 0, depends on the surface
row only, and SCANWAVE is the configured wave: row i of its first period is entry i of the configuration's list, the
list's length is its period (log 3), and its values lie in [0, 1]. -/
def Obligations.DarkeningFractionIsBounded : Prop :=
  ∀ (c : Cfg) (scan : BitVec 9) (py : Nat), scan.toNat ≤ 256 →
    0 ≤ darkening c scan py ∧ darkening c scan py ≤ c.kScan ∧ c.kScan ≤ 1 ∧ darkening c 0 py = 0 ∧
    0 ≤ scanWave c py ∧ scanWave c py ≤ 1 ∧
    (∀ (i : Nat) (h : i < c.wave.length), scanWave c i = c.wave[i]) ∧
    1 ≤ c.wave.length ∧ ∀ n, scanWave c (n + c.wave.length) = scanWave c n

/-- 43_display_decoder R151, R152, 93_implementation_defined U4: a darkened channel is the nearest 8-bit value to
`c * (1 - a)`, halves upward, so it never rises; with a = 0 the colour is unchanged bit for bit; alpha passes. -/
def Obligations.DarkenedColourIsNearestAndNeverBrighter : Prop :=
  ∀ (col : Colour) (a : ℚ), 0 ≤ a → a ≤ 1 →
    (∀ v : BitVec 8,
      ((darkenChannel v a).toNat : ℚ) - 1 / 2 ≤ (v.toNat : ℚ) * (1 - a) ∧
      (v.toNat : ℚ) * (1 - a) < ((darkenChannel v a).toNat : ℚ) + 1 / 2 ∧
      (darkenChannel v a).toNat ≤ v.toNat) ∧
    darken col a = ⟨darkenChannel col.r a, darkenChannel col.g a, darkenChannel col.b a, col.a⟩ ∧
    darken col 0 = col

/-- 43_display_decoder R154: a second DECODE of the same state presents a second frame that equals the first at
every covered pixel, for every WARP and SCAN. -/
def Obligations.DecodingTwiceShowsTheSame : Prop :=
  ∀ s : State, ∃ t u, exec .decode s = .next t ∧ exec .decode t = .next u ∧
    u.presented = s.presented ++ [t.surf, u.surf] ∧ SameWhereCovered s.vp t.surf u.surf

/-- 20_memory R63, 43_display_decoder R140: what DECODE shows depends on nothing but the configuration, VP, the
surface size, WARP, SCAN, FBTEX and PALTEX; a change of FB, PAL or CPU memory alone is not seen. -/
def Obligations.DecodeSeesOnlyItsInputs : Prop :=
  ∀ s₁ s₂ t₁ t₂ : State, SameDecoderInputs s₁ s₂ → exec .decode s₁ = .next t₁ → exec .decode s₂ = .next t₂ →
    SameWhereCovered s₁.vp t₁.surf t₂.surf

/-- 70_reset_and_hazards R224: once the palette has been loaded and uploaded and a whole frame loaded and
uploaded, the picture does not depend on any unspecified content: two machines that agree on what the host and
the CPU wrote show the same at every covered pixel. -/
def Obligations.DefinedFrameHidesUnspecifiedContents : Prop :=
  ∀ s₁ s₂ t₁ t₂ : State, s₁.fbtex.length = s₁.cfg.height → s₂.fbtex.length = s₂.cfg.height →
    s₂.cfg = s₁.cfg → s₂.cpuMem = s₁.cpuMem → s₂.palstage = s₁.palstage → s₂.vp = s₁.vp →
    s₂.surfW = s₁.surfW → s₂.surfH = s₁.surfH → s₂.warp = s₁.warp → s₂.scan = s₁.scan →
    execAll (.loadpal :: frameCommands s₁.cfg) s₁ = .next t₁ →
    execAll (.loadpal :: frameCommands s₂.cfg) s₂ = .next t₂ →
      SameWhereCovered s₁.vp t₁.surf t₂.surf

/-! ### Viewport Mapper (44_viewport_mapper) -/

/-- 44_viewport_mapper R171: VPORT latches the size, computes VP by the rule's formula, leaves the surface alone
when the size stays the same, and changes nothing else (but, on a resize, SURF and the count of the model's free
values, log 6); after a resize SURF has H rows of W pixels. -/
def Obligations.VportLatchesSizeAndRectangle : Prop :=
  ∀ (s : State) (W H : Nat) (k : ℚ),
    k = (if s.cfg.policy = .integer
      then max 1 ((⌊min ((W : ℚ) / s.cfg.width) ((H : ℚ) / s.cfg.height)⌋ : ℤ) : ℚ)
      else min ((W : ℚ) / s.cfg.width) ((H : ℚ) / s.cfg.height)) →
    ∃ t, exec (.vport W H) s = .next t ∧
      t = ((s.setSurf t.surf).setDraws t.draws).setView W H
        (if W = 0 ∨ H = 0 then ⟨0, 0, 0, 0⟩
         else ⟨((W : ℚ) - k * s.cfg.width) / 2, ((H : ℚ) - k * s.cfg.height) / 2,
           k * s.cfg.width, k * s.cfg.height⟩) ∧
      (W = s.surfW ∧ H = s.surfH → t.surf = s.surf ∧ t.draws = s.draws) ∧
      (¬(W = s.surfW ∧ H = s.surfH) → t.surf.length = H ∧ ∀ row ∈ t.surf, row.length = W)

/-- 44_viewport_mapper R172: under the continuous policy VP is centred, has exactly the logical aspect ratio, fits
the window and touches it in one direction, and no larger rectangle of that aspect ratio fits. -/
def Obligations.ContinuousViewportIsTheLargestThatFits : Prop :=
  ∀ (c : Cfg) (W H : Nat) (r : Rect), c.policy = .continuous → 1 ≤ W → 1 ≤ H → r = viewport c W H →
    (r.w = min ((W : ℚ) / c.width) ((H : ℚ) / c.height) * c.width ∧
      r.h = min ((W : ℚ) / c.width) ((H : ℚ) / c.height) * c.height) ∧
    (0 < r.w ∧ 0 < r.h ∧ r.w ≤ W ∧ r.h ≤ H) ∧ r.w * (c.height : ℚ) = r.h * (c.width : ℚ) ∧
    ((r.w = W ∧ r.x = 0) ∨ (r.h = H ∧ r.y = 0)) ∧ (2 * r.x + r.w = W ∧ 2 * r.y + r.h = H) ∧
    ∀ w h : ℚ, w * (c.height : ℚ) = h * (c.width : ℚ) → w ≤ W → h ≤ H → w ≤ r.w ∧ h ≤ r.h

/-- 44_viewport_mapper R173: under the integer policy the scale is the natural number
max(1, floor(min(W/WIDTH, H/HEIGHT))), the rectangle is that multiple of the logical size, and it is centred. -/
def Obligations.IntegerViewportHasANaturalScale : Prop :=
  ∀ (c : Cfg) (W H k : Nat), c.policy = .integer → 1 ≤ W → 1 ≤ H →
    k = max 1 (min (W / c.width) (H / c.height)) →
      viewport c W H = ⟨((W : ℚ) - (k * c.width : ℕ)) / 2, ((H : ℚ) - (k * c.height : ℕ)) / 2,
        (k * c.width : ℕ), (k * c.height : ℕ)⟩

/-- 44_viewport_mapper R174, 43_display_decoder R142: a window of width or height 0 gives the zero rectangle under
both policies, and a zero-area rectangle covers no pixel. -/
def Obligations.DegenerateWindowCoversNothing : Prop :=
  (∀ (c : Cfg) (W H : Nat), W = 0 ∨ H = 0 → viewport c W H = ⟨0, 0, 0, 0⟩) ∧
  ∀ (vp : Rect) (px py : Nat), vp.w = 0 ∨ vp.h = 0 → ¬Covered vp px py

/-- 44_viewport_mapper R175: for a window of exactly k times the logical size both policies give the zero-offset,
full-area rectangle. -/
def Obligations.PoliciesAgreeAtExactMultiples : Prop :=
  ∀ (c : Cfg) (k : Nat), viewport c (k * c.width) (k * c.height) =
    ⟨0, 0, (k * c.width : ℕ), (k * c.height : ℕ)⟩

/-! ### Register port (10_state) -/

/-- 10_state R27 to R35: what RegRead returns for every register number; the read changes no register and no
store (the value reaches the host through the model's `readData`, log 9). -/
def Obligations.RegisterReadsFollowTheMap : Prop :=
  ∀ (s : State) (n : Nat) (rest : List Event), s.pending = .regRead n :: rest →
    ∃ v : Word, step s = .next ((s.setPending rest).setReadData v) ∧
      (n = 0x00 → v = 0) ∧ (n = 0x01 → v.toNat = s.status.toNat) ∧ (n = 0x02 → v = s.result) ∧
      (n = 0x03 → v.toNat = s.warp.toNat) ∧ (n = 0x04 → v.toNat = s.scan.toNat) ∧
      (∀ k : Fin 16, n = 0x10 + k.val → v = s.palstage[k]) ∧
      ((5 ≤ n ∧ n ≤ 0x0F) ∨ 0x20 ≤ n → v = 0)

/-- 10_state R27 to R35: what RegWrite changes for every register number but CMD: STATUS, RESULT and the reserved
numbers ignore it, WARP and SCAN store min(v, 256), PALSTAGE[k] stores v; nothing else changes. -/
def Obligations.RegisterWritesFollowTheMap : Prop :=
  ∀ (s : State) (n : Nat) (v : Word) (rest : List Event), s.pending = .regWrite n v :: rest →
    (n = 0x01 ∨ n = 0x02 ∨ (5 ≤ n ∧ n ≤ 0x0F) ∨ 0x20 ≤ n → step s = .next (s.setPending rest)) ∧
    (n = 0x03 → ∃ m : BitVec 9, m.toNat = min v.toNat 256 ∧ step s = .next ((s.setPending rest).setWarp m)) ∧
    (n = 0x04 → ∃ m : BitVec 9, m.toNat = min v.toNat 256 ∧ step s = .next ((s.setPending rest).setScan m)) ∧
    (∀ k : Fin 16, n = 0x10 + k.val →
      ∃ p : Vector Word 16, step s = .next ((s.setPending rest).setPalstage p) ∧
        p[k] = v ∧ ∀ j : Fin 16, j ≠ k → p[j] = s.palstage[j])

/-- 10_state R35: the reserved register numbers read 0, ignore writes, and set no flag. -/
def Obligations.ReservedRegistersReadZeroAndIgnoreWrites : Prop :=
  ∀ (s : State) (n : Nat) (v : Word) (rest : List Event), (5 ≤ n ∧ n ≤ 0x0F) ∨ 0x20 ≤ n →
    (s.pending = .regRead n :: rest → step s = .next ((s.setPending rest).setReadData 0)) ∧
    (s.pending = .regWrite n v :: rest → step s = .next (s.setPending rest))

/-- 30_encoding R90, 41_palette_table R122: SETPAL, seventeen register writes, makes PAL the sixteen colours
given, whatever the staging registers held, and leaves PALTEX alone. -/
def Obligations.SetpalInstallsThePalette : Prop :=
  ∀ (s : State) (cols : Vector Word 16) (rest : List Event), s.pending = assemble s.cfg (.setpal cols) ++ rest →
    ∃ t, steps 17 s = .next t ∧
      t = ((s.setPal t.pal).setPalstage cols).setPending rest ∧ ∀ k : Fin 16, t.pal[k].toWord = cols[k]

/-! ### Reset, invariants and the machine as a whole (10_state, 60_exceptions, 70_reset_and_hazards) -/

/-- 10_state R41, 70_reset_and_hazards R220: the registers and internal scalars after reset, at power-on and after the
reset input of a running block (that the input may come at any step, not only at power-on, is the model's choice,
log 13). -/
def Obligations.ResetValues : Prop :=
  State.reset.HasResetValues ∧
  ∀ (s t : State) (rest : List Event), s.pending = .blockReset :: rest → step s = .next t → t.HasResetValues

/-- The invariant holds after reset, for every configuration (10_state R41; the CPU memory and the cadence at
reset are the model's choices, log 7 and log 10). -/
def Obligations.InvariantHoldsAtReset : Prop :=
  State.reset.Inv ∧ ∀ (c : Cfg) (draw : Nat), (State.resetOf c draw).Inv

/-- Every step keeps the invariant: the stores keep their sizes (10_state R22, R25), WARP and SCAN stay at most
256 (R30, R31), SURF has SURF_H rows of SURF_W pixels and VP is the Mapper's rectangle for that size (R36 to R38),
CPU memory lists only addresses that exist (20_memory R50) and stays in canonical form (the model's own
representation, log 7), and the cadence stays the one its rate gives. -/
def Obligations.EveryStepKeepsTheInvariant : Prop :=
  ∀ s t : State, s.Inv → step s = .next t → t.Inv

/-- 00_scope R6: the configuration is constant for the life of the block. -/
def Obligations.ConfigurationNeverChanges : Prop :=
  ∀ s t : State, step s = .next t → t.cfg = s.cfg

/-- 60_exceptions R209, 20_memory R72: every command completes in every state, no step is refused, and a step
faults only for a call of the CPU collaborator that changes a byte outside CPU memory (the model's choice,
log 12). -/
def Obligations.CommandsNeverFaultOrRefuse : Prop :=
  (∀ (i : Instr) (s : State), ∃ t, exec i s = .next t) ∧
  ∀ s : State, (∃ t, step s = .next t) ∨
    ∃ call writes rest a, s.pending = .cpu call writes :: rest ∧ a ∈ writes.map (·.1) ∧
      2 ^ s.cfg.addrBits ≤ a ∧ step s = .fault (.noSuchCpuAddress a)

/-- 20_memory R72, R62: a command never writes CPU memory, the registers of the port that only the host writes,
or anything of the host. -/
def Obligations.CommandsLeaveHostAndCpuAlone : Prop :=
  ∀ (i : Instr) (s t : State), exec i s = .next t →
    t.cpuMem = s.cpuMem ∧ t.palstage = s.palstage ∧ t.warp = s.warp ∧ t.scan = s.scan ∧ t.cfg = s.cfg ∧
    t.pending = s.pending ∧ t.loop = s.loop ∧ t.cadence = s.cadence ∧ t.readData = s.readData

/-- 10_state R22 to R26, R36 to R39, 70_reset_and_hazards R228, R229: each store has its own writer. A command that
changes FB is SETPIX or LOADFB, FBTEX UPLOADFB, PAL LOADPAL, PALTEX UPLOADPAL, the viewport and the surface size
VPORT, the history DECODE, RESULT GETPIX or COLORAT; and no step but LOADPAL or a reset changes PAL. -/
def Obligations.EachStoreHasItsOwnWriter : Prop :=
  (∀ (i : Instr) (s t : State), exec i s = .next t →
    (t.fb ≠ s.fb → i = .loadfb ∨ ∃ x y c8, i = .setpix x y c8) ∧
    (t.fbtex ≠ s.fbtex → ∃ y0 n, i = .uploadfb y0 n) ∧
    (t.pal ≠ s.pal → i = .loadpal) ∧
    (t.paltex ≠ s.paltex → i = .uploadpal) ∧
    (t.vp ≠ s.vp ∨ t.surfW ≠ s.surfW ∨ t.surfH ≠ s.surfH → i = .vport t.surfW t.surfH) ∧
    (t.surf ≠ s.surf → i = .decode ∨ ∃ W H, i = .vport W H) ∧
    (t.presented ≠ s.presented → i = .decode) ∧
    (t.result ≠ s.result → (∃ x y, i = .getpix x y) ∨ ∃ idx8, i = .colorat idx8)) ∧
  ∀ s t : State, step s = .next t → t.pal ≠ s.pal →
    (∃ w rest, s.pending = .regWrite 0 w :: rest ∧ decodeWord w = .ok .loadpal) ∨
    ∃ rest, s.pending = .blockReset :: rest

/-- 70_reset_and_hazards R220, R221, 20_memory R68: the block's reset gives the registers the values of 10_state R41
and touches neither CPU memory nor the configuration. Every call of the CPU collaborator (run, write or its own
reset) changes CPU memory alone: each address it lists reads back the last byte listed for it, and every other
address reads as before. Both resets are events of the model's queue and a call carries the bytes it changes (log 12,
log 13); a paused host does not call run (log 25). -/
def Obligations.TheTwoResetsAreIndependent : Prop :=
  (∀ (s : State) (rest : List Event), s.pending = .blockReset :: rest →
    ∃ t, step s = .next t ∧ t.HasResetValues ∧ t.cpuMem = s.cpuMem ∧ t.cfg = s.cfg) ∧
  ∀ (s : State) (call : CpuCall) (writes : List Host.Cell) (rest : List Event),
    s.pending = .cpu call writes :: rest → s.cpuMem.wf → (∀ c ∈ writes, c.1 < 2 ^ s.cfg.addrBits) →
    (s.loop ≠ .paused ∨ ∀ k, call ≠ .run k) →
      ∃ t, step s = .next t ∧ t = (s.setPending rest).setCpuMem t.cpuMem ∧ t.cpuMem.wf ∧
        (∀ before a v after, writes = before ++ (a, v) :: after → (∀ c ∈ after, c.1 ≠ a) →
          t.cpuMem.read a = v) ∧
        ∀ a, (∀ c ∈ writes, c.1 ≠ a) → t.cpuMem.read a = s.cpuMem.read a

/-! ### Presentation Loop (45_presentation_loop) -/

/-- 45_presentation_loop R184: the selected monitor is the first that holds the centre, and where none holds it the
first among those of least squared clamped distance; none is selected exactly when there is no monitor. The
distance is the rule's formula, and 0 exactly when the centre lies in the closed rectangle. -/
def Obligations.MonitorSelectionFollowsTheRule : Prop :=
  ∀ (cx cy : ℚ) (ms : List Monitor),
    (∀ m : Monitor, m.dist2 cx cy =
        (cx - min (max cx m.rect.x) (m.rect.x + m.rect.w)) ^ 2 +
        (cy - min (max cy m.rect.y) (m.rect.y + m.rect.h)) ^ 2 ∧
      (0 ≤ m.rect.w → 0 ≤ m.rect.h → (m.dist2 cx cy = 0 ↔
        (m.rect.x ≤ cx ∧ cx ≤ m.rect.x + m.rect.w) ∧ m.rect.y ≤ cy ∧ cy ≤ m.rect.y + m.rect.h))) ∧
    (selectMonitor cx cy ms = none ↔ ms = []) ∧
    ∀ j, selectMonitor cx cy ms = some j →
      ∃ m, ms[j]? = some m ∧
        ((m.Inside cx cy ∧ ∀ i m', i < j → ms[i]? = some m' → ¬m'.Inside cx cy) ∨
         ((∀ m' ∈ ms, ¬m'.Inside cx cy) ∧ (∀ m' ∈ ms, m.dist2 cx cy ≤ m'.dist2 cx cy) ∧
          ∀ i m', i < j → ms[i]? = some m' → m.dist2 cx cy < m'.dist2 cx cy))

/-- 45_presentation_loop R185: no monitor, a failed query and a reported 0 give DEFAULT_REFRESH_HZ, any other
report is the rate, and R is at least 1 always. -/
def Obligations.RefreshRateFallsBack : Prop :=
  ∀ (c : Cfg) (ms : List Monitor) (sel : Option Nat) (r : Nat),
    (sel = none ∨ (∃ j m, sel = some j ∧ ms[j]? = some m ∧ (m.rate = none ∨ m.rate = some 0)) →
      refreshRate c (reportedRate ms sel) = c.defaultRefreshHz) ∧
    (1 ≤ r → (∃ j m, sel = some j ∧ ms[j]? = some m ∧ m.rate = some r) →
      refreshRate c (reportedRate ms sel) = r) ∧
    1 ≤ refreshRate c (reportedRate ms sel)

/-- 45_presentation_loop R186: the budget is TARGET_CLOCK_HZ divided by R, truncated; with the default clock the
source's two values. -/
def Obligations.BudgetIsTheTruncatedQuotient : Prop :=
  (∀ (c : Cfg) (r : Nat), 1 ≤ r →
    cycleBudget c r * r ≤ c.targetClockHz ∧ c.targetClockHz < (cycleBudget c r + 1) * r ∧
    (c.targetClockHz < r → cycleBudget c r = 0)) ∧
  ∀ c : Cfg, c.targetClockHz = 10000000 → cycleBudget c 60 = 166666 ∧ cycleBudget c 144 = 69444

/-- 45_presentation_loop R181, R182, 60_exceptions R207, 70_reset_and_hazards R229: the host's loop. An iteration begun
while Running computes R and the budget and puts the CPU's run with that budget, LOADFB, the uploads and DECODE before
everything else that is pending; begun in another state it does none of the six steps. A visibility event moves the
host between Running and Paused and touches nothing else. A resize notification makes the host issue VPORT with the
new size next, while Running and while Paused (log 19). While Paused the CPU is not run, and no step but a reset
changes what the decoder reads of the texture stores or presents a frame (log 25). The queue is the model's form of the
host's order (log 8). -/
def Obligations.IterationIssuesTheSixSteps : Prop :=
  (∀ (s : State) (it : Iteration) (rest : List Event) (r : Nat), s.pending = .iterate it :: rest →
    r = refreshRate s.cfg (reportedRate it.monitors (selectMonitor it.centreX it.centreY it.monitors)) →
    (s.loop = .running → step s = .next ((s.setCadence (some ⟨r, s.cfg.targetClockHz / r⟩)).setPending
      ([Event.cpu (.run (s.cfg.targetClockHz / r)) it.cpuWrites, .regWrite 0 0x30000000] ++
        it.uploads.map (fun u => Event.regWrite 0 (0x6#4 ++ 0#6 ++ u.n ++ u.y0)) ++
        (if it.uploadPal then [Event.regWrite 0 0x70000000] else []) ++ [Event.regWrite 0 0x80000000] ++ rest))) ∧
    (s.loop ≠ .running → step s = .next (s.setPending rest))) ∧
  (∀ (s : State) (visible : Bool) (rest : List Event), s.pending = .visibility visible :: rest →
    (s.loop ≠ .terminated →
      step s = .next ((s.setPending rest).setLoop (if visible then .running else .paused))) ∧
    (s.loop = .terminated → step s = .next (s.setPending rest))) ∧
  (∀ (s : State) (W H : BitVec 14) (rest : List Event), s.pending = .resize W H :: rest →
    (s.loop ≠ .terminated →
      step s = .next (s.setPending (.regWrite 0 (0x9#4 ++ H ++ W) :: rest)) ∧
      steps 2 s = exec (.vport W.toNat H.toNat) (s.setPending rest)) ∧
    (s.loop = .terminated → step s = .next (s.setPending rest))) ∧
  (∀ (s : State) (k : Nat) (writes : List Host.Cell) (rest : List Event), s.loop = .paused →
    s.pending = .cpu (.run k) writes :: rest → step s = .next (s.setPending rest)) ∧
  ∀ s t : State, s.loop = .paused → (∀ rest, s.pending ≠ .blockReset :: rest) → step s = .next t →
    t.fbtex = s.fbtex ∧ t.paltex = s.paltex ∧ t.presented = s.presented ∧ t.cadence = s.cadence

/-- 45_presentation_loop R183: a close request ends the loop: nothing is pending any more, the block is as it
was, and every later step leaves the machine as it is (that the queue is emptied is the model's form of the rule,
log 11). -/
def Obligations.CloseEndsTheLoop : Prop :=
  ∀ (s : State) (rest : List Event), s.pending = .close :: rest →
    ∃ t, step s = .next t ∧ t = (s.setLoop .terminated).setPending [] ∧
      ∀ n, steps n t = .next t

/-- 45_presentation_loop R181 step 5: where the host uploads every row that changed, in ranges that lie in the
texture, FBTEX equals FB after the uploads, and PALTEX equals PAL where UPLOADPAL is left out only while nothing
changed. -/
def Obligations.UploadingTheChangedRowsSuffices : Prop :=
  ∀ (s : State) (it : Iteration), s.fbtex.length = s.cfg.height → it.CoversChanges s →
    (∀ u ∈ it.uploads, u.y0.toNat + u.n.toNat ≤ s.cfg.height) →
    ∃ t, execAll (it.uploads.map (fun u => .uploadfb u.y0.toNat u.n.toNat) ++
        (if it.uploadPal then [.uploadpal] else [])) s = .next t ∧
      t = (s.setFbtex t.fbtex).setPaltex s.pal ∧ ∀ r, r < s.cfg.height → t.fbtex[r]? = some (s.fbRow r)

/-- 45_presentation_loop R188: after FRAME, FB equals the CPU memory window, FBTEX equals FB, PALTEX equals PAL, and
the frame appended to the history is DecodePixel of that state at every covered pixel. FRAME is four words. -/
def Obligations.FrameShowsCpuMemory : Prop :=
  ∀ s : State, s.fbtex.length = s.cfg.height →
    (frameCommands s.cfg).map encode =
      ([0x30000000, 0x60000000#32 ||| (BitVec.ofNat 32 s.cfg.height <<< 11), 0x70000000, 0x80000000] : List Word) ∧
    ∃ t, execAll (frameCommands s.cfg) s = .next t ∧
      t.fb.length = s.cfg.fbBytes ∧ (∀ i, i < s.cfg.fbBytes → t.fb[i]? = some (s.cpuMem.read (s.cfg.fbBase + i))) ∧
      (∀ r, r < s.cfg.height → t.fbtex[r]? = some (t.fbRow r)) ∧ t.pal = s.pal ∧ t.paltex = s.pal ∧
      t.presented = s.presented ++ [t.surf] ∧
      ∀ px py, px < s.surfW → py < s.surfH → Covered s.vp px py →
        Frame.colourAt t.surf px py = some (t.decodePixel px py)

/-- 43_display_decoder R155, 45_presentation_loop R188, end to end: with the filter off, after FRAME a covered
pixel shows the palette entry whose number the CPU wrote into its nibble of the window. -/
def Obligations.FrameEndToEndWithTheFilterOff : Prop :=
  ∀ (s : State) (px py lx ly : Nat) (k : Fin 16), s.fbtex.length = s.cfg.height → s.warp = 0 → s.scan = 0 →
    px < s.surfW → py < s.surfH → Covered s.vp px py →
    (lx : ℤ) = ⌊normU s.vp px * (s.cfg.width : ℚ)⌋ → (ly : ℤ) = ⌊normV s.vp py * (s.cfg.height : ℚ)⌋ →
    k.val = (unpack (s.cpuMem.read (s.cfg.fbBase + (ly * s.cfg.width + lx) / 2)) lx).toNat →
      ∃ t, execAll (frameCommands s.cfg) s = .next t ∧ Frame.colourAt t.surf px py = some s.pal[k]
end

