-- ==== Sys2Proof/Laws/Bits.lean ====
section
/-! SUPPORT. Bit fields as quotients and remainders: what every field, word and nibble operation does, once. -/

namespace Sys2Proof

theorem toNat_append_mul {n m : Nat} (x : BitVec n) (y : BitVec m) :
    (x ++ y).toNat = x.toNat * 2 ^ m + y.toNat := by
  rw [BitVec.toNat_append, ← Nat.shiftLeft_add_eq_or_of_lt y.isLt, Nat.shiftLeft_eq]

theorem toNat_field {n : Nat} (w : BitVec n) (start len : Nat) :
    (w.extractLsb' start len).toNat = w.toNat / 2 ^ start % 2 ^ len := by
  rw [BitVec.extractLsb'_toNat, Nat.shiftRight_eq_div_pow]

theorem opField_toNat (w : Word) : (opField w).toNat = w.toNat / 2 ^ 28 := by
  have := w.isLt
  rw [opField, toNat_field]; omega

theorem xField_toNat (w : Word) : (xField w).toNat = w.toNat % 1024 := by
  rw [xField, toNat_field]; omega

theorem yField_toNat (w : Word) : (yField w).toNat = w.toNat / 1024 % 1024 := by
  rw [yField, toNat_field]; omega

theorem c8Field_toNat (w : Word) : (c8Field w).toNat = w.toNat / 2 ^ 20 % 256 := by
  rw [c8Field, toNat_field]; omega

theorem idx8Field_toNat (w : Word) : (idx8Field w).toNat = w.toNat % 256 := by
  rw [idx8Field, toNat_field]; omega

theorem y0Field_toNat (w : Word) : (y0Field w).toNat = w.toNat % 2048 := by
  rw [y0Field, toNat_field]; omega

theorem nField_toNat (w : Word) : (nField w).toNat = w.toNat / 2048 % 2048 := by
  rw [nField, toNat_field]; omega

theorem widthField_toNat (w : Word) : (widthField w).toNat = w.toNat % 16384 := by
  rw [widthField, toNat_field]; omega

theorem heightField_toNat (w : Word) : (heightField w).toNat = w.toNat / 16384 % 16384 := by
  rw [heightField, toNat_field]; omega

/-- The opcode of a command fits four bits and is none of the reserved ones. -/
theorem opcode_range (i : Instr) : 1 ≤ i.opcode ∧ i.opcode ≤ 9 := by
  cases i <;> simp [Instr.opcode]

/-- A command's word is its opcode above its 28 operand bits. -/
theorem encode_toNat (i : Instr) : (encode i).toNat = i.opcode * 2 ^ 28 + i.operandBits.toNat := by
  rw [encode, toNat_append_mul, BitVec.toNat_ofNat]
  have := opcode_range i
  omega

theorem operandBits_lt (i : Instr) : i.operandBits.toNat < 2 ^ 28 := i.operandBits.isLt

namespace Machine

theorem low4_eq (v : Nat) : low4 v = v % 16 := Nat.and_two_pow_sub_one_eq_mod v 4

theorem paletteIndex_val (v : Nat) : (paletteIndex v).val = v % 16 := low4_eq v

theorem unpack_toNat (b : Byte) (x : Nat) :
    (unpack b x).toNat = if x % 2 = 0 then b.toNat / 16 else b.toNat % 16 := by
  have := b.isLt
  unfold unpack
  split <;> rw [toNat_field] <;> omega

theorem toNat_high_nibble (b : Byte) : (b &&& 0xF0).toNat = b.toNat / 16 * 16 := by
  revert b; decide

theorem toNat_low_nibble (b : Byte) : (b &&& 0x0F).toNat = b.toNat % 16 := by
  revert b; decide

theorem pack_toNat (b : Byte) (x v : Nat) :
    (pack b x v).toNat = if x % 2 = 0 then v % 16 * 16 + b.toNat % 16 else b.toNat / 16 * 16 + v % 16 := by
  unfold pack
  rw [low4_eq]
  split
  · rw [BitVec.toNat_or, toNat_low_nibble, BitVec.toNat_shiftLeft, BitVec.toNat_ofNat,
      Nat.mod_eq_of_lt (a := v % 16) (by omega), Nat.mod_eq_of_lt (by rw [Nat.shiftLeft_eq]; omega),
      ← Nat.shiftLeft_add_eq_or_of_lt (by omega), Nat.shiftLeft_eq]
  · rw [BitVec.toNat_or, toNat_high_nibble, BitVec.toNat_ofNat, Nat.mod_eq_of_lt (a := v % 16) (by omega)]
    have h := Nat.shiftLeft_add_eq_or_of_lt (i := 4) (b := v % 16) (by omega) (b.toNat / 16)
    rw [Nat.shiftLeft_eq] at h
    exact h.symm

end Machine

end Sys2Proof
end

