-- ==== Sys2Proof/Laws/Config.lean ====
section
/-! SUPPORT. What every configuration satisfies, once (00_scope R6). -/

namespace Sys2Proof

/-- A configuration is legal: it carries the proof. -/
theorem Cfg.legal (c : Cfg) : c.toParams.Legal := of_decide_eq_true c.ok

theorem Cfg.width_bounds (c : Cfg) : 2 ≤ c.width ∧ c.width ≤ 1024 ∧ c.width % 2 = 0 := c.legal.1

theorem Cfg.height_bounds (c : Cfg) : 1 ≤ c.height ∧ c.height ≤ 1024 := c.legal.2.1

theorem Cfg.window_fits (c : Cfg) : c.fbBase + c.fbBytes ≤ 2 ^ c.addrBits := c.legal.2.2.1

theorem Cfg.kScan_bounds (c : Cfg) : 0 ≤ c.kScan ∧ c.kScan ≤ 1 := c.legal.2.2.2.2.1

theorem Cfg.wave_bounds (c : Cfg) : c.wave ≠ [] ∧ ∀ q ∈ c.wave, 0 ≤ q ∧ q ≤ 1 := c.legal.2.2.2.2.2.1

theorem Cfg.defaultRefresh_pos (c : Cfg) : 1 ≤ c.defaultRefreshHz := c.legal.2.2.2.2.2.2

theorem Cfg.width_pos (c : Cfg) : (0 : ℚ) < (c.width : ℚ) := by
  have := c.width_bounds
  exact_mod_cast (by omega : 0 < c.width)

theorem Cfg.height_pos (c : Cfg) : (0 : ℚ) < (c.height : ℚ) := by
  have := c.height_bounds
  exact_mod_cast (by omega : 0 < c.height)

/-- What `Cfg.ofParams` answers: the parameters themselves when they are legal, nothing otherwise. -/
theorem Cfg.ofParams_spec (p : Params) :
    (p.Legal → ∃ c, Cfg.ofParams p = some c ∧ c.toParams = p) ∧ (¬p.Legal → Cfg.ofParams p = none) := by
  constructor <;> intro h
  · have hv : p.valid = true := decide_eq_true h
    exact ⟨⟨p, hv⟩, by rw [Cfg.ofParams, dif_pos hv], rfl⟩
  · have hv : ¬p.valid = true := fun hv => h (of_decide_eq_true hv)
    rw [Cfg.ofParams, dif_neg hv]

end Sys2Proof
end

