-- ==== Sys2Proof/Laws/State.lean ====
section
/-! SUPPORT. One lemma per field per named update of State, so that no later proof unfolds a record update. -/

namespace Sys2Proof.Machine

@[simp] theorem State.setFb_cfg (s : State) (v : List Byte) : (s.setFb v).cfg = s.cfg := rfl
@[simp] theorem State.setFb_fb (s : State) (v : List Byte) : (s.setFb v).fb = v := rfl
@[simp] theorem State.setFb_fbtex (s : State) (v : List Byte) : (s.setFb v).fbtex = s.fbtex := rfl
@[simp] theorem State.setFb_pal (s : State) (v : List Byte) : (s.setFb v).pal = s.pal := rfl
@[simp] theorem State.setFb_paltex (s : State) (v : List Byte) : (s.setFb v).paltex = s.paltex := rfl
@[simp] theorem State.setFb_palstage (s : State) (v : List Byte) : (s.setFb v).palstage = s.palstage := rfl
@[simp] theorem State.setFb_status (s : State) (v : List Byte) : (s.setFb v).status = s.status := rfl
@[simp] theorem State.setFb_result (s : State) (v : List Byte) : (s.setFb v).result = s.result := rfl
@[simp] theorem State.setFb_warp (s : State) (v : List Byte) : (s.setFb v).warp = s.warp := rfl
@[simp] theorem State.setFb_scan (s : State) (v : List Byte) : (s.setFb v).scan = s.scan := rfl
@[simp] theorem State.setFb_vp (s : State) (v : List Byte) : (s.setFb v).vp = s.vp := rfl
@[simp] theorem State.setFb_surfW (s : State) (v : List Byte) : (s.setFb v).surfW = s.surfW := rfl
@[simp] theorem State.setFb_surfH (s : State) (v : List Byte) : (s.setFb v).surfH = s.surfH := rfl
@[simp] theorem State.setFb_surf (s : State) (v : List Byte) : (s.setFb v).surf = s.surf := rfl
@[simp] theorem State.setFb_presented (s : State) (v : List Byte) : (s.setFb v).presented = s.presented := rfl
@[simp] theorem State.setFb_cpuMem (s : State) (v : List Byte) : (s.setFb v).cpuMem = s.cpuMem := rfl
@[simp] theorem State.setFb_pending (s : State) (v : List Byte) : (s.setFb v).pending = s.pending := rfl
@[simp] theorem State.setFb_readData (s : State) (v : List Byte) : (s.setFb v).readData = s.readData := rfl
@[simp] theorem State.setFb_loop (s : State) (v : List Byte) : (s.setFb v).loop = s.loop := rfl
@[simp] theorem State.setFb_cadence (s : State) (v : List Byte) : (s.setFb v).cadence = s.cadence := rfl
@[simp] theorem State.setFb_draws (s : State) (v : List Byte) : (s.setFb v).draws = s.draws := rfl

@[simp] theorem State.setFbtex_cfg (s : State) (v : List (List Byte)) : (s.setFbtex v).cfg = s.cfg := rfl
@[simp] theorem State.setFbtex_fb (s : State) (v : List (List Byte)) : (s.setFbtex v).fb = s.fb := rfl
@[simp] theorem State.setFbtex_fbtex (s : State) (v : List (List Byte)) : (s.setFbtex v).fbtex = v := rfl
@[simp] theorem State.setFbtex_pal (s : State) (v : List (List Byte)) : (s.setFbtex v).pal = s.pal := rfl
@[simp] theorem State.setFbtex_paltex (s : State) (v : List (List Byte)) : (s.setFbtex v).paltex = s.paltex := rfl
@[simp] theorem State.setFbtex_palstage (s : State) (v : List (List Byte)) : (s.setFbtex v).palstage = s.palstage := rfl
@[simp] theorem State.setFbtex_status (s : State) (v : List (List Byte)) : (s.setFbtex v).status = s.status := rfl
@[simp] theorem State.setFbtex_result (s : State) (v : List (List Byte)) : (s.setFbtex v).result = s.result := rfl
@[simp] theorem State.setFbtex_warp (s : State) (v : List (List Byte)) : (s.setFbtex v).warp = s.warp := rfl
@[simp] theorem State.setFbtex_scan (s : State) (v : List (List Byte)) : (s.setFbtex v).scan = s.scan := rfl
@[simp] theorem State.setFbtex_vp (s : State) (v : List (List Byte)) : (s.setFbtex v).vp = s.vp := rfl
@[simp] theorem State.setFbtex_surfW (s : State) (v : List (List Byte)) : (s.setFbtex v).surfW = s.surfW := rfl
@[simp] theorem State.setFbtex_surfH (s : State) (v : List (List Byte)) : (s.setFbtex v).surfH = s.surfH := rfl
@[simp] theorem State.setFbtex_surf (s : State) (v : List (List Byte)) : (s.setFbtex v).surf = s.surf := rfl
@[simp] theorem State.setFbtex_presented (s : State) (v : List (List Byte)) : (s.setFbtex v).presented = s.presented := rfl
@[simp] theorem State.setFbtex_cpuMem (s : State) (v : List (List Byte)) : (s.setFbtex v).cpuMem = s.cpuMem := rfl
@[simp] theorem State.setFbtex_pending (s : State) (v : List (List Byte)) : (s.setFbtex v).pending = s.pending := rfl
@[simp] theorem State.setFbtex_readData (s : State) (v : List (List Byte)) : (s.setFbtex v).readData = s.readData := rfl
@[simp] theorem State.setFbtex_loop (s : State) (v : List (List Byte)) : (s.setFbtex v).loop = s.loop := rfl
@[simp] theorem State.setFbtex_cadence (s : State) (v : List (List Byte)) : (s.setFbtex v).cadence = s.cadence := rfl
@[simp] theorem State.setFbtex_draws (s : State) (v : List (List Byte)) : (s.setFbtex v).draws = s.draws := rfl

@[simp] theorem State.setPal_cfg (s : State) (v : Palette) : (s.setPal v).cfg = s.cfg := rfl
@[simp] theorem State.setPal_fb (s : State) (v : Palette) : (s.setPal v).fb = s.fb := rfl
@[simp] theorem State.setPal_fbtex (s : State) (v : Palette) : (s.setPal v).fbtex = s.fbtex := rfl
@[simp] theorem State.setPal_pal (s : State) (v : Palette) : (s.setPal v).pal = v := rfl
@[simp] theorem State.setPal_paltex (s : State) (v : Palette) : (s.setPal v).paltex = s.paltex := rfl
@[simp] theorem State.setPal_palstage (s : State) (v : Palette) : (s.setPal v).palstage = s.palstage := rfl
@[simp] theorem State.setPal_status (s : State) (v : Palette) : (s.setPal v).status = s.status := rfl
@[simp] theorem State.setPal_result (s : State) (v : Palette) : (s.setPal v).result = s.result := rfl
@[simp] theorem State.setPal_warp (s : State) (v : Palette) : (s.setPal v).warp = s.warp := rfl
@[simp] theorem State.setPal_scan (s : State) (v : Palette) : (s.setPal v).scan = s.scan := rfl
@[simp] theorem State.setPal_vp (s : State) (v : Palette) : (s.setPal v).vp = s.vp := rfl
@[simp] theorem State.setPal_surfW (s : State) (v : Palette) : (s.setPal v).surfW = s.surfW := rfl
@[simp] theorem State.setPal_surfH (s : State) (v : Palette) : (s.setPal v).surfH = s.surfH := rfl
@[simp] theorem State.setPal_surf (s : State) (v : Palette) : (s.setPal v).surf = s.surf := rfl
@[simp] theorem State.setPal_presented (s : State) (v : Palette) : (s.setPal v).presented = s.presented := rfl
@[simp] theorem State.setPal_cpuMem (s : State) (v : Palette) : (s.setPal v).cpuMem = s.cpuMem := rfl
@[simp] theorem State.setPal_pending (s : State) (v : Palette) : (s.setPal v).pending = s.pending := rfl
@[simp] theorem State.setPal_readData (s : State) (v : Palette) : (s.setPal v).readData = s.readData := rfl
@[simp] theorem State.setPal_loop (s : State) (v : Palette) : (s.setPal v).loop = s.loop := rfl
@[simp] theorem State.setPal_cadence (s : State) (v : Palette) : (s.setPal v).cadence = s.cadence := rfl
@[simp] theorem State.setPal_draws (s : State) (v : Palette) : (s.setPal v).draws = s.draws := rfl

@[simp] theorem State.setPaltex_cfg (s : State) (v : Palette) : (s.setPaltex v).cfg = s.cfg := rfl
@[simp] theorem State.setPaltex_fb (s : State) (v : Palette) : (s.setPaltex v).fb = s.fb := rfl
@[simp] theorem State.setPaltex_fbtex (s : State) (v : Palette) : (s.setPaltex v).fbtex = s.fbtex := rfl
@[simp] theorem State.setPaltex_pal (s : State) (v : Palette) : (s.setPaltex v).pal = s.pal := rfl
@[simp] theorem State.setPaltex_paltex (s : State) (v : Palette) : (s.setPaltex v).paltex = v := rfl
@[simp] theorem State.setPaltex_palstage (s : State) (v : Palette) : (s.setPaltex v).palstage = s.palstage := rfl
@[simp] theorem State.setPaltex_status (s : State) (v : Palette) : (s.setPaltex v).status = s.status := rfl
@[simp] theorem State.setPaltex_result (s : State) (v : Palette) : (s.setPaltex v).result = s.result := rfl
@[simp] theorem State.setPaltex_warp (s : State) (v : Palette) : (s.setPaltex v).warp = s.warp := rfl
@[simp] theorem State.setPaltex_scan (s : State) (v : Palette) : (s.setPaltex v).scan = s.scan := rfl
@[simp] theorem State.setPaltex_vp (s : State) (v : Palette) : (s.setPaltex v).vp = s.vp := rfl
@[simp] theorem State.setPaltex_surfW (s : State) (v : Palette) : (s.setPaltex v).surfW = s.surfW := rfl
@[simp] theorem State.setPaltex_surfH (s : State) (v : Palette) : (s.setPaltex v).surfH = s.surfH := rfl
@[simp] theorem State.setPaltex_surf (s : State) (v : Palette) : (s.setPaltex v).surf = s.surf := rfl
@[simp] theorem State.setPaltex_presented (s : State) (v : Palette) : (s.setPaltex v).presented = s.presented := rfl
@[simp] theorem State.setPaltex_cpuMem (s : State) (v : Palette) : (s.setPaltex v).cpuMem = s.cpuMem := rfl
@[simp] theorem State.setPaltex_pending (s : State) (v : Palette) : (s.setPaltex v).pending = s.pending := rfl
@[simp] theorem State.setPaltex_readData (s : State) (v : Palette) : (s.setPaltex v).readData = s.readData := rfl
@[simp] theorem State.setPaltex_loop (s : State) (v : Palette) : (s.setPaltex v).loop = s.loop := rfl
@[simp] theorem State.setPaltex_cadence (s : State) (v : Palette) : (s.setPaltex v).cadence = s.cadence := rfl
@[simp] theorem State.setPaltex_draws (s : State) (v : Palette) : (s.setPaltex v).draws = s.draws := rfl

@[simp] theorem State.setPalstage_cfg (s : State) (v : Vector Word 16) : (s.setPalstage v).cfg = s.cfg := rfl
@[simp] theorem State.setPalstage_fb (s : State) (v : Vector Word 16) : (s.setPalstage v).fb = s.fb := rfl
@[simp] theorem State.setPalstage_fbtex (s : State) (v : Vector Word 16) : (s.setPalstage v).fbtex = s.fbtex := rfl
@[simp] theorem State.setPalstage_pal (s : State) (v : Vector Word 16) : (s.setPalstage v).pal = s.pal := rfl
@[simp] theorem State.setPalstage_paltex (s : State) (v : Vector Word 16) : (s.setPalstage v).paltex = s.paltex := rfl
@[simp] theorem State.setPalstage_palstage (s : State) (v : Vector Word 16) : (s.setPalstage v).palstage = v := rfl
@[simp] theorem State.setPalstage_status (s : State) (v : Vector Word 16) : (s.setPalstage v).status = s.status := rfl
@[simp] theorem State.setPalstage_result (s : State) (v : Vector Word 16) : (s.setPalstage v).result = s.result := rfl
@[simp] theorem State.setPalstage_warp (s : State) (v : Vector Word 16) : (s.setPalstage v).warp = s.warp := rfl
@[simp] theorem State.setPalstage_scan (s : State) (v : Vector Word 16) : (s.setPalstage v).scan = s.scan := rfl
@[simp] theorem State.setPalstage_vp (s : State) (v : Vector Word 16) : (s.setPalstage v).vp = s.vp := rfl
@[simp] theorem State.setPalstage_surfW (s : State) (v : Vector Word 16) : (s.setPalstage v).surfW = s.surfW := rfl
@[simp] theorem State.setPalstage_surfH (s : State) (v : Vector Word 16) : (s.setPalstage v).surfH = s.surfH := rfl
@[simp] theorem State.setPalstage_surf (s : State) (v : Vector Word 16) : (s.setPalstage v).surf = s.surf := rfl
@[simp] theorem State.setPalstage_presented (s : State) (v : Vector Word 16) : (s.setPalstage v).presented = s.presented := rfl
@[simp] theorem State.setPalstage_cpuMem (s : State) (v : Vector Word 16) : (s.setPalstage v).cpuMem = s.cpuMem := rfl
@[simp] theorem State.setPalstage_pending (s : State) (v : Vector Word 16) : (s.setPalstage v).pending = s.pending := rfl
@[simp] theorem State.setPalstage_readData (s : State) (v : Vector Word 16) : (s.setPalstage v).readData = s.readData := rfl
@[simp] theorem State.setPalstage_loop (s : State) (v : Vector Word 16) : (s.setPalstage v).loop = s.loop := rfl
@[simp] theorem State.setPalstage_cadence (s : State) (v : Vector Word 16) : (s.setPalstage v).cadence = s.cadence := rfl
@[simp] theorem State.setPalstage_draws (s : State) (v : Vector Word 16) : (s.setPalstage v).draws = s.draws := rfl

@[simp] theorem State.setStatus_cfg (s : State) (v : BitVec 2) : (s.setStatus v).cfg = s.cfg := rfl
@[simp] theorem State.setStatus_fb (s : State) (v : BitVec 2) : (s.setStatus v).fb = s.fb := rfl
@[simp] theorem State.setStatus_fbtex (s : State) (v : BitVec 2) : (s.setStatus v).fbtex = s.fbtex := rfl
@[simp] theorem State.setStatus_pal (s : State) (v : BitVec 2) : (s.setStatus v).pal = s.pal := rfl
@[simp] theorem State.setStatus_paltex (s : State) (v : BitVec 2) : (s.setStatus v).paltex = s.paltex := rfl
@[simp] theorem State.setStatus_palstage (s : State) (v : BitVec 2) : (s.setStatus v).palstage = s.palstage := rfl
@[simp] theorem State.setStatus_status (s : State) (v : BitVec 2) : (s.setStatus v).status = v := rfl
@[simp] theorem State.setStatus_result (s : State) (v : BitVec 2) : (s.setStatus v).result = s.result := rfl
@[simp] theorem State.setStatus_warp (s : State) (v : BitVec 2) : (s.setStatus v).warp = s.warp := rfl
@[simp] theorem State.setStatus_scan (s : State) (v : BitVec 2) : (s.setStatus v).scan = s.scan := rfl
@[simp] theorem State.setStatus_vp (s : State) (v : BitVec 2) : (s.setStatus v).vp = s.vp := rfl
@[simp] theorem State.setStatus_surfW (s : State) (v : BitVec 2) : (s.setStatus v).surfW = s.surfW := rfl
@[simp] theorem State.setStatus_surfH (s : State) (v : BitVec 2) : (s.setStatus v).surfH = s.surfH := rfl
@[simp] theorem State.setStatus_surf (s : State) (v : BitVec 2) : (s.setStatus v).surf = s.surf := rfl
@[simp] theorem State.setStatus_presented (s : State) (v : BitVec 2) : (s.setStatus v).presented = s.presented := rfl
@[simp] theorem State.setStatus_cpuMem (s : State) (v : BitVec 2) : (s.setStatus v).cpuMem = s.cpuMem := rfl
@[simp] theorem State.setStatus_pending (s : State) (v : BitVec 2) : (s.setStatus v).pending = s.pending := rfl
@[simp] theorem State.setStatus_readData (s : State) (v : BitVec 2) : (s.setStatus v).readData = s.readData := rfl
@[simp] theorem State.setStatus_loop (s : State) (v : BitVec 2) : (s.setStatus v).loop = s.loop := rfl
@[simp] theorem State.setStatus_cadence (s : State) (v : BitVec 2) : (s.setStatus v).cadence = s.cadence := rfl
@[simp] theorem State.setStatus_draws (s : State) (v : BitVec 2) : (s.setStatus v).draws = s.draws := rfl

@[simp] theorem State.setResult_cfg (s : State) (v : Word) : (s.setResult v).cfg = s.cfg := rfl
@[simp] theorem State.setResult_fb (s : State) (v : Word) : (s.setResult v).fb = s.fb := rfl
@[simp] theorem State.setResult_fbtex (s : State) (v : Word) : (s.setResult v).fbtex = s.fbtex := rfl
@[simp] theorem State.setResult_pal (s : State) (v : Word) : (s.setResult v).pal = s.pal := rfl
@[simp] theorem State.setResult_paltex (s : State) (v : Word) : (s.setResult v).paltex = s.paltex := rfl
@[simp] theorem State.setResult_palstage (s : State) (v : Word) : (s.setResult v).palstage = s.palstage := rfl
@[simp] theorem State.setResult_status (s : State) (v : Word) : (s.setResult v).status = s.status := rfl
@[simp] theorem State.setResult_result (s : State) (v : Word) : (s.setResult v).result = v := rfl
@[simp] theorem State.setResult_warp (s : State) (v : Word) : (s.setResult v).warp = s.warp := rfl
@[simp] theorem State.setResult_scan (s : State) (v : Word) : (s.setResult v).scan = s.scan := rfl
@[simp] theorem State.setResult_vp (s : State) (v : Word) : (s.setResult v).vp = s.vp := rfl
@[simp] theorem State.setResult_surfW (s : State) (v : Word) : (s.setResult v).surfW = s.surfW := rfl
@[simp] theorem State.setResult_surfH (s : State) (v : Word) : (s.setResult v).surfH = s.surfH := rfl
@[simp] theorem State.setResult_surf (s : State) (v : Word) : (s.setResult v).surf = s.surf := rfl
@[simp] theorem State.setResult_presented (s : State) (v : Word) : (s.setResult v).presented = s.presented := rfl
@[simp] theorem State.setResult_cpuMem (s : State) (v : Word) : (s.setResult v).cpuMem = s.cpuMem := rfl
@[simp] theorem State.setResult_pending (s : State) (v : Word) : (s.setResult v).pending = s.pending := rfl
@[simp] theorem State.setResult_readData (s : State) (v : Word) : (s.setResult v).readData = s.readData := rfl
@[simp] theorem State.setResult_loop (s : State) (v : Word) : (s.setResult v).loop = s.loop := rfl
@[simp] theorem State.setResult_cadence (s : State) (v : Word) : (s.setResult v).cadence = s.cadence := rfl
@[simp] theorem State.setResult_draws (s : State) (v : Word) : (s.setResult v).draws = s.draws := rfl

@[simp] theorem State.setWarp_cfg (s : State) (v : BitVec 9) : (s.setWarp v).cfg = s.cfg := rfl
@[simp] theorem State.setWarp_fb (s : State) (v : BitVec 9) : (s.setWarp v).fb = s.fb := rfl
@[simp] theorem State.setWarp_fbtex (s : State) (v : BitVec 9) : (s.setWarp v).fbtex = s.fbtex := rfl
@[simp] theorem State.setWarp_pal (s : State) (v : BitVec 9) : (s.setWarp v).pal = s.pal := rfl
@[simp] theorem State.setWarp_paltex (s : State) (v : BitVec 9) : (s.setWarp v).paltex = s.paltex := rfl
@[simp] theorem State.setWarp_palstage (s : State) (v : BitVec 9) : (s.setWarp v).palstage = s.palstage := rfl
@[simp] theorem State.setWarp_status (s : State) (v : BitVec 9) : (s.setWarp v).status = s.status := rfl
@[simp] theorem State.setWarp_result (s : State) (v : BitVec 9) : (s.setWarp v).result = s.result := rfl
@[simp] theorem State.setWarp_warp (s : State) (v : BitVec 9) : (s.setWarp v).warp = v := rfl
@[simp] theorem State.setWarp_scan (s : State) (v : BitVec 9) : (s.setWarp v).scan = s.scan := rfl
@[simp] theorem State.setWarp_vp (s : State) (v : BitVec 9) : (s.setWarp v).vp = s.vp := rfl
@[simp] theorem State.setWarp_surfW (s : State) (v : BitVec 9) : (s.setWarp v).surfW = s.surfW := rfl
@[simp] theorem State.setWarp_surfH (s : State) (v : BitVec 9) : (s.setWarp v).surfH = s.surfH := rfl
@[simp] theorem State.setWarp_surf (s : State) (v : BitVec 9) : (s.setWarp v).surf = s.surf := rfl
@[simp] theorem State.setWarp_presented (s : State) (v : BitVec 9) : (s.setWarp v).presented = s.presented := rfl
@[simp] theorem State.setWarp_cpuMem (s : State) (v : BitVec 9) : (s.setWarp v).cpuMem = s.cpuMem := rfl
@[simp] theorem State.setWarp_pending (s : State) (v : BitVec 9) : (s.setWarp v).pending = s.pending := rfl
@[simp] theorem State.setWarp_readData (s : State) (v : BitVec 9) : (s.setWarp v).readData = s.readData := rfl
@[simp] theorem State.setWarp_loop (s : State) (v : BitVec 9) : (s.setWarp v).loop = s.loop := rfl
@[simp] theorem State.setWarp_cadence (s : State) (v : BitVec 9) : (s.setWarp v).cadence = s.cadence := rfl
@[simp] theorem State.setWarp_draws (s : State) (v : BitVec 9) : (s.setWarp v).draws = s.draws := rfl

@[simp] theorem State.setScan_cfg (s : State) (v : BitVec 9) : (s.setScan v).cfg = s.cfg := rfl
@[simp] theorem State.setScan_fb (s : State) (v : BitVec 9) : (s.setScan v).fb = s.fb := rfl
@[simp] theorem State.setScan_fbtex (s : State) (v : BitVec 9) : (s.setScan v).fbtex = s.fbtex := rfl
@[simp] theorem State.setScan_pal (s : State) (v : BitVec 9) : (s.setScan v).pal = s.pal := rfl
@[simp] theorem State.setScan_paltex (s : State) (v : BitVec 9) : (s.setScan v).paltex = s.paltex := rfl
@[simp] theorem State.setScan_palstage (s : State) (v : BitVec 9) : (s.setScan v).palstage = s.palstage := rfl
@[simp] theorem State.setScan_status (s : State) (v : BitVec 9) : (s.setScan v).status = s.status := rfl
@[simp] theorem State.setScan_result (s : State) (v : BitVec 9) : (s.setScan v).result = s.result := rfl
@[simp] theorem State.setScan_warp (s : State) (v : BitVec 9) : (s.setScan v).warp = s.warp := rfl
@[simp] theorem State.setScan_scan (s : State) (v : BitVec 9) : (s.setScan v).scan = v := rfl
@[simp] theorem State.setScan_vp (s : State) (v : BitVec 9) : (s.setScan v).vp = s.vp := rfl
@[simp] theorem State.setScan_surfW (s : State) (v : BitVec 9) : (s.setScan v).surfW = s.surfW := rfl
@[simp] theorem State.setScan_surfH (s : State) (v : BitVec 9) : (s.setScan v).surfH = s.surfH := rfl
@[simp] theorem State.setScan_surf (s : State) (v : BitVec 9) : (s.setScan v).surf = s.surf := rfl
@[simp] theorem State.setScan_presented (s : State) (v : BitVec 9) : (s.setScan v).presented = s.presented := rfl
@[simp] theorem State.setScan_cpuMem (s : State) (v : BitVec 9) : (s.setScan v).cpuMem = s.cpuMem := rfl
@[simp] theorem State.setScan_pending (s : State) (v : BitVec 9) : (s.setScan v).pending = s.pending := rfl
@[simp] theorem State.setScan_readData (s : State) (v : BitVec 9) : (s.setScan v).readData = s.readData := rfl
@[simp] theorem State.setScan_loop (s : State) (v : BitVec 9) : (s.setScan v).loop = s.loop := rfl
@[simp] theorem State.setScan_cadence (s : State) (v : BitVec 9) : (s.setScan v).cadence = s.cadence := rfl
@[simp] theorem State.setScan_draws (s : State) (v : BitVec 9) : (s.setScan v).draws = s.draws := rfl

@[simp] theorem State.setSurf_cfg (s : State) (v : Frame) : (s.setSurf v).cfg = s.cfg := rfl
@[simp] theorem State.setSurf_fb (s : State) (v : Frame) : (s.setSurf v).fb = s.fb := rfl
@[simp] theorem State.setSurf_fbtex (s : State) (v : Frame) : (s.setSurf v).fbtex = s.fbtex := rfl
@[simp] theorem State.setSurf_pal (s : State) (v : Frame) : (s.setSurf v).pal = s.pal := rfl
@[simp] theorem State.setSurf_paltex (s : State) (v : Frame) : (s.setSurf v).paltex = s.paltex := rfl
@[simp] theorem State.setSurf_palstage (s : State) (v : Frame) : (s.setSurf v).palstage = s.palstage := rfl
@[simp] theorem State.setSurf_status (s : State) (v : Frame) : (s.setSurf v).status = s.status := rfl
@[simp] theorem State.setSurf_result (s : State) (v : Frame) : (s.setSurf v).result = s.result := rfl
@[simp] theorem State.setSurf_warp (s : State) (v : Frame) : (s.setSurf v).warp = s.warp := rfl
@[simp] theorem State.setSurf_scan (s : State) (v : Frame) : (s.setSurf v).scan = s.scan := rfl
@[simp] theorem State.setSurf_vp (s : State) (v : Frame) : (s.setSurf v).vp = s.vp := rfl
@[simp] theorem State.setSurf_surfW (s : State) (v : Frame) : (s.setSurf v).surfW = s.surfW := rfl
@[simp] theorem State.setSurf_surfH (s : State) (v : Frame) : (s.setSurf v).surfH = s.surfH := rfl
@[simp] theorem State.setSurf_surf (s : State) (v : Frame) : (s.setSurf v).surf = v := rfl
@[simp] theorem State.setSurf_presented (s : State) (v : Frame) : (s.setSurf v).presented = s.presented := rfl
@[simp] theorem State.setSurf_cpuMem (s : State) (v : Frame) : (s.setSurf v).cpuMem = s.cpuMem := rfl
@[simp] theorem State.setSurf_pending (s : State) (v : Frame) : (s.setSurf v).pending = s.pending := rfl
@[simp] theorem State.setSurf_readData (s : State) (v : Frame) : (s.setSurf v).readData = s.readData := rfl
@[simp] theorem State.setSurf_loop (s : State) (v : Frame) : (s.setSurf v).loop = s.loop := rfl
@[simp] theorem State.setSurf_cadence (s : State) (v : Frame) : (s.setSurf v).cadence = s.cadence := rfl
@[simp] theorem State.setSurf_draws (s : State) (v : Frame) : (s.setSurf v).draws = s.draws := rfl

@[simp] theorem State.setPresented_cfg (s : State) (v : List Frame) : (s.setPresented v).cfg = s.cfg := rfl
@[simp] theorem State.setPresented_fb (s : State) (v : List Frame) : (s.setPresented v).fb = s.fb := rfl
@[simp] theorem State.setPresented_fbtex (s : State) (v : List Frame) : (s.setPresented v).fbtex = s.fbtex := rfl
@[simp] theorem State.setPresented_pal (s : State) (v : List Frame) : (s.setPresented v).pal = s.pal := rfl
@[simp] theorem State.setPresented_paltex (s : State) (v : List Frame) : (s.setPresented v).paltex = s.paltex := rfl
@[simp] theorem State.setPresented_palstage (s : State) (v : List Frame) : (s.setPresented v).palstage = s.palstage := rfl
@[simp] theorem State.setPresented_status (s : State) (v : List Frame) : (s.setPresented v).status = s.status := rfl
@[simp] theorem State.setPresented_result (s : State) (v : List Frame) : (s.setPresented v).result = s.result := rfl
@[simp] theorem State.setPresented_warp (s : State) (v : List Frame) : (s.setPresented v).warp = s.warp := rfl
@[simp] theorem State.setPresented_scan (s : State) (v : List Frame) : (s.setPresented v).scan = s.scan := rfl
@[simp] theorem State.setPresented_vp (s : State) (v : List Frame) : (s.setPresented v).vp = s.vp := rfl
@[simp] theorem State.setPresented_surfW (s : State) (v : List Frame) : (s.setPresented v).surfW = s.surfW := rfl
@[simp] theorem State.setPresented_surfH (s : State) (v : List Frame) : (s.setPresented v).surfH = s.surfH := rfl
@[simp] theorem State.setPresented_surf (s : State) (v : List Frame) : (s.setPresented v).surf = s.surf := rfl
@[simp] theorem State.setPresented_presented (s : State) (v : List Frame) : (s.setPresented v).presented = v := rfl
@[simp] theorem State.setPresented_cpuMem (s : State) (v : List Frame) : (s.setPresented v).cpuMem = s.cpuMem := rfl
@[simp] theorem State.setPresented_pending (s : State) (v : List Frame) : (s.setPresented v).pending = s.pending := rfl
@[simp] theorem State.setPresented_readData (s : State) (v : List Frame) : (s.setPresented v).readData = s.readData := rfl
@[simp] theorem State.setPresented_loop (s : State) (v : List Frame) : (s.setPresented v).loop = s.loop := rfl
@[simp] theorem State.setPresented_cadence (s : State) (v : List Frame) : (s.setPresented v).cadence = s.cadence := rfl
@[simp] theorem State.setPresented_draws (s : State) (v : List Frame) : (s.setPresented v).draws = s.draws := rfl

@[simp] theorem State.setCpuMem_cfg (s : State) (v : Memory) : (s.setCpuMem v).cfg = s.cfg := rfl
@[simp] theorem State.setCpuMem_fb (s : State) (v : Memory) : (s.setCpuMem v).fb = s.fb := rfl
@[simp] theorem State.setCpuMem_fbtex (s : State) (v : Memory) : (s.setCpuMem v).fbtex = s.fbtex := rfl
@[simp] theorem State.setCpuMem_pal (s : State) (v : Memory) : (s.setCpuMem v).pal = s.pal := rfl
@[simp] theorem State.setCpuMem_paltex (s : State) (v : Memory) : (s.setCpuMem v).paltex = s.paltex := rfl
@[simp] theorem State.setCpuMem_palstage (s : State) (v : Memory) : (s.setCpuMem v).palstage = s.palstage := rfl
@[simp] theorem State.setCpuMem_status (s : State) (v : Memory) : (s.setCpuMem v).status = s.status := rfl
@[simp] theorem State.setCpuMem_result (s : State) (v : Memory) : (s.setCpuMem v).result = s.result := rfl
@[simp] theorem State.setCpuMem_warp (s : State) (v : Memory) : (s.setCpuMem v).warp = s.warp := rfl
@[simp] theorem State.setCpuMem_scan (s : State) (v : Memory) : (s.setCpuMem v).scan = s.scan := rfl
@[simp] theorem State.setCpuMem_vp (s : State) (v : Memory) : (s.setCpuMem v).vp = s.vp := rfl
@[simp] theorem State.setCpuMem_surfW (s : State) (v : Memory) : (s.setCpuMem v).surfW = s.surfW := rfl
@[simp] theorem State.setCpuMem_surfH (s : State) (v : Memory) : (s.setCpuMem v).surfH = s.surfH := rfl
@[simp] theorem State.setCpuMem_surf (s : State) (v : Memory) : (s.setCpuMem v).surf = s.surf := rfl
@[simp] theorem State.setCpuMem_presented (s : State) (v : Memory) : (s.setCpuMem v).presented = s.presented := rfl
@[simp] theorem State.setCpuMem_cpuMem (s : State) (v : Memory) : (s.setCpuMem v).cpuMem = v := rfl
@[simp] theorem State.setCpuMem_pending (s : State) (v : Memory) : (s.setCpuMem v).pending = s.pending := rfl
@[simp] theorem State.setCpuMem_readData (s : State) (v : Memory) : (s.setCpuMem v).readData = s.readData := rfl
@[simp] theorem State.setCpuMem_loop (s : State) (v : Memory) : (s.setCpuMem v).loop = s.loop := rfl
@[simp] theorem State.setCpuMem_cadence (s : State) (v : Memory) : (s.setCpuMem v).cadence = s.cadence := rfl
@[simp] theorem State.setCpuMem_draws (s : State) (v : Memory) : (s.setCpuMem v).draws = s.draws := rfl

@[simp] theorem State.setPending_cfg (s : State) (v : List Event) : (s.setPending v).cfg = s.cfg := rfl
@[simp] theorem State.setPending_fb (s : State) (v : List Event) : (s.setPending v).fb = s.fb := rfl
@[simp] theorem State.setPending_fbtex (s : State) (v : List Event) : (s.setPending v).fbtex = s.fbtex := rfl
@[simp] theorem State.setPending_pal (s : State) (v : List Event) : (s.setPending v).pal = s.pal := rfl
@[simp] theorem State.setPending_paltex (s : State) (v : List Event) : (s.setPending v).paltex = s.paltex := rfl
@[simp] theorem State.setPending_palstage (s : State) (v : List Event) : (s.setPending v).palstage = s.palstage := rfl
@[simp] theorem State.setPending_status (s : State) (v : List Event) : (s.setPending v).status = s.status := rfl
@[simp] theorem State.setPending_result (s : State) (v : List Event) : (s.setPending v).result = s.result := rfl
@[simp] theorem State.setPending_warp (s : State) (v : List Event) : (s.setPending v).warp = s.warp := rfl
@[simp] theorem State.setPending_scan (s : State) (v : List Event) : (s.setPending v).scan = s.scan := rfl
@[simp] theorem State.setPending_vp (s : State) (v : List Event) : (s.setPending v).vp = s.vp := rfl
@[simp] theorem State.setPending_surfW (s : State) (v : List Event) : (s.setPending v).surfW = s.surfW := rfl
@[simp] theorem State.setPending_surfH (s : State) (v : List Event) : (s.setPending v).surfH = s.surfH := rfl
@[simp] theorem State.setPending_surf (s : State) (v : List Event) : (s.setPending v).surf = s.surf := rfl
@[simp] theorem State.setPending_presented (s : State) (v : List Event) : (s.setPending v).presented = s.presented := rfl
@[simp] theorem State.setPending_cpuMem (s : State) (v : List Event) : (s.setPending v).cpuMem = s.cpuMem := rfl
@[simp] theorem State.setPending_pending (s : State) (v : List Event) : (s.setPending v).pending = v := rfl
@[simp] theorem State.setPending_readData (s : State) (v : List Event) : (s.setPending v).readData = s.readData := rfl
@[simp] theorem State.setPending_loop (s : State) (v : List Event) : (s.setPending v).loop = s.loop := rfl
@[simp] theorem State.setPending_cadence (s : State) (v : List Event) : (s.setPending v).cadence = s.cadence := rfl
@[simp] theorem State.setPending_draws (s : State) (v : List Event) : (s.setPending v).draws = s.draws := rfl

@[simp] theorem State.setReadData_cfg (s : State) (v : Word) : (s.setReadData v).cfg = s.cfg := rfl
@[simp] theorem State.setReadData_fb (s : State) (v : Word) : (s.setReadData v).fb = s.fb := rfl
@[simp] theorem State.setReadData_fbtex (s : State) (v : Word) : (s.setReadData v).fbtex = s.fbtex := rfl
@[simp] theorem State.setReadData_pal (s : State) (v : Word) : (s.setReadData v).pal = s.pal := rfl
@[simp] theorem State.setReadData_paltex (s : State) (v : Word) : (s.setReadData v).paltex = s.paltex := rfl
@[simp] theorem State.setReadData_palstage (s : State) (v : Word) : (s.setReadData v).palstage = s.palstage := rfl
@[simp] theorem State.setReadData_status (s : State) (v : Word) : (s.setReadData v).status = s.status := rfl
@[simp] theorem State.setReadData_result (s : State) (v : Word) : (s.setReadData v).result = s.result := rfl
@[simp] theorem State.setReadData_warp (s : State) (v : Word) : (s.setReadData v).warp = s.warp := rfl
@[simp] theorem State.setReadData_scan (s : State) (v : Word) : (s.setReadData v).scan = s.scan := rfl
@[simp] theorem State.setReadData_vp (s : State) (v : Word) : (s.setReadData v).vp = s.vp := rfl
@[simp] theorem State.setReadData_surfW (s : State) (v : Word) : (s.setReadData v).surfW = s.surfW := rfl
@[simp] theorem State.setReadData_surfH (s : State) (v : Word) : (s.setReadData v).surfH = s.surfH := rfl
@[simp] theorem State.setReadData_surf (s : State) (v : Word) : (s.setReadData v).surf = s.surf := rfl
@[simp] theorem State.setReadData_presented (s : State) (v : Word) : (s.setReadData v).presented = s.presented := rfl
@[simp] theorem State.setReadData_cpuMem (s : State) (v : Word) : (s.setReadData v).cpuMem = s.cpuMem := rfl
@[simp] theorem State.setReadData_pending (s : State) (v : Word) : (s.setReadData v).pending = s.pending := rfl
@[simp] theorem State.setReadData_readData (s : State) (v : Word) : (s.setReadData v).readData = v := rfl
@[simp] theorem State.setReadData_loop (s : State) (v : Word) : (s.setReadData v).loop = s.loop := rfl
@[simp] theorem State.setReadData_cadence (s : State) (v : Word) : (s.setReadData v).cadence = s.cadence := rfl
@[simp] theorem State.setReadData_draws (s : State) (v : Word) : (s.setReadData v).draws = s.draws := rfl

@[simp] theorem State.setLoop_cfg (s : State) (v : LoopMode) : (s.setLoop v).cfg = s.cfg := rfl
@[simp] theorem State.setLoop_fb (s : State) (v : LoopMode) : (s.setLoop v).fb = s.fb := rfl
@[simp] theorem State.setLoop_fbtex (s : State) (v : LoopMode) : (s.setLoop v).fbtex = s.fbtex := rfl
@[simp] theorem State.setLoop_pal (s : State) (v : LoopMode) : (s.setLoop v).pal = s.pal := rfl
@[simp] theorem State.setLoop_paltex (s : State) (v : LoopMode) : (s.setLoop v).paltex = s.paltex := rfl
@[simp] theorem State.setLoop_palstage (s : State) (v : LoopMode) : (s.setLoop v).palstage = s.palstage := rfl
@[simp] theorem State.setLoop_status (s : State) (v : LoopMode) : (s.setLoop v).status = s.status := rfl
@[simp] theorem State.setLoop_result (s : State) (v : LoopMode) : (s.setLoop v).result = s.result := rfl
@[simp] theorem State.setLoop_warp (s : State) (v : LoopMode) : (s.setLoop v).warp = s.warp := rfl
@[simp] theorem State.setLoop_scan (s : State) (v : LoopMode) : (s.setLoop v).scan = s.scan := rfl
@[simp] theorem State.setLoop_vp (s : State) (v : LoopMode) : (s.setLoop v).vp = s.vp := rfl
@[simp] theorem State.setLoop_surfW (s : State) (v : LoopMode) : (s.setLoop v).surfW = s.surfW := rfl
@[simp] theorem State.setLoop_surfH (s : State) (v : LoopMode) : (s.setLoop v).surfH = s.surfH := rfl
@[simp] theorem State.setLoop_surf (s : State) (v : LoopMode) : (s.setLoop v).surf = s.surf := rfl
@[simp] theorem State.setLoop_presented (s : State) (v : LoopMode) : (s.setLoop v).presented = s.presented := rfl
@[simp] theorem State.setLoop_cpuMem (s : State) (v : LoopMode) : (s.setLoop v).cpuMem = s.cpuMem := rfl
@[simp] theorem State.setLoop_pending (s : State) (v : LoopMode) : (s.setLoop v).pending = s.pending := rfl
@[simp] theorem State.setLoop_readData (s : State) (v : LoopMode) : (s.setLoop v).readData = s.readData := rfl
@[simp] theorem State.setLoop_loop (s : State) (v : LoopMode) : (s.setLoop v).loop = v := rfl
@[simp] theorem State.setLoop_cadence (s : State) (v : LoopMode) : (s.setLoop v).cadence = s.cadence := rfl
@[simp] theorem State.setLoop_draws (s : State) (v : LoopMode) : (s.setLoop v).draws = s.draws := rfl

@[simp] theorem State.setCadence_cfg (s : State) (v : Option Cadence) : (s.setCadence v).cfg = s.cfg := rfl
@[simp] theorem State.setCadence_fb (s : State) (v : Option Cadence) : (s.setCadence v).fb = s.fb := rfl
@[simp] theorem State.setCadence_fbtex (s : State) (v : Option Cadence) : (s.setCadence v).fbtex = s.fbtex := rfl
@[simp] theorem State.setCadence_pal (s : State) (v : Option Cadence) : (s.setCadence v).pal = s.pal := rfl
@[simp] theorem State.setCadence_paltex (s : State) (v : Option Cadence) : (s.setCadence v).paltex = s.paltex := rfl
@[simp] theorem State.setCadence_palstage (s : State) (v : Option Cadence) : (s.setCadence v).palstage = s.palstage := rfl
@[simp] theorem State.setCadence_status (s : State) (v : Option Cadence) : (s.setCadence v).status = s.status := rfl
@[simp] theorem State.setCadence_result (s : State) (v : Option Cadence) : (s.setCadence v).result = s.result := rfl
@[simp] theorem State.setCadence_warp (s : State) (v : Option Cadence) : (s.setCadence v).warp = s.warp := rfl
@[simp] theorem State.setCadence_scan (s : State) (v : Option Cadence) : (s.setCadence v).scan = s.scan := rfl
@[simp] theorem State.setCadence_vp (s : State) (v : Option Cadence) : (s.setCadence v).vp = s.vp := rfl
@[simp] theorem State.setCadence_surfW (s : State) (v : Option Cadence) : (s.setCadence v).surfW = s.surfW := rfl
@[simp] theorem State.setCadence_surfH (s : State) (v : Option Cadence) : (s.setCadence v).surfH = s.surfH := rfl
@[simp] theorem State.setCadence_surf (s : State) (v : Option Cadence) : (s.setCadence v).surf = s.surf := rfl
@[simp] theorem State.setCadence_presented (s : State) (v : Option Cadence) : (s.setCadence v).presented = s.presented := rfl
@[simp] theorem State.setCadence_cpuMem (s : State) (v : Option Cadence) : (s.setCadence v).cpuMem = s.cpuMem := rfl
@[simp] theorem State.setCadence_pending (s : State) (v : Option Cadence) : (s.setCadence v).pending = s.pending := rfl
@[simp] theorem State.setCadence_readData (s : State) (v : Option Cadence) : (s.setCadence v).readData = s.readData := rfl
@[simp] theorem State.setCadence_loop (s : State) (v : Option Cadence) : (s.setCadence v).loop = s.loop := rfl
@[simp] theorem State.setCadence_cadence (s : State) (v : Option Cadence) : (s.setCadence v).cadence = v := rfl
@[simp] theorem State.setCadence_draws (s : State) (v : Option Cadence) : (s.setCadence v).draws = s.draws := rfl

@[simp] theorem State.setDraws_cfg (s : State) (v : Nat) : (s.setDraws v).cfg = s.cfg := rfl
@[simp] theorem State.setDraws_fb (s : State) (v : Nat) : (s.setDraws v).fb = s.fb := rfl
@[simp] theorem State.setDraws_fbtex (s : State) (v : Nat) : (s.setDraws v).fbtex = s.fbtex := rfl
@[simp] theorem State.setDraws_pal (s : State) (v : Nat) : (s.setDraws v).pal = s.pal := rfl
@[simp] theorem State.setDraws_paltex (s : State) (v : Nat) : (s.setDraws v).paltex = s.paltex := rfl
@[simp] theorem State.setDraws_palstage (s : State) (v : Nat) : (s.setDraws v).palstage = s.palstage := rfl
@[simp] theorem State.setDraws_status (s : State) (v : Nat) : (s.setDraws v).status = s.status := rfl
@[simp] theorem State.setDraws_result (s : State) (v : Nat) : (s.setDraws v).result = s.result := rfl
@[simp] theorem State.setDraws_warp (s : State) (v : Nat) : (s.setDraws v).warp = s.warp := rfl
@[simp] theorem State.setDraws_scan (s : State) (v : Nat) : (s.setDraws v).scan = s.scan := rfl
@[simp] theorem State.setDraws_vp (s : State) (v : Nat) : (s.setDraws v).vp = s.vp := rfl
@[simp] theorem State.setDraws_surfW (s : State) (v : Nat) : (s.setDraws v).surfW = s.surfW := rfl
@[simp] theorem State.setDraws_surfH (s : State) (v : Nat) : (s.setDraws v).surfH = s.surfH := rfl
@[simp] theorem State.setDraws_surf (s : State) (v : Nat) : (s.setDraws v).surf = s.surf := rfl
@[simp] theorem State.setDraws_presented (s : State) (v : Nat) : (s.setDraws v).presented = s.presented := rfl
@[simp] theorem State.setDraws_cpuMem (s : State) (v : Nat) : (s.setDraws v).cpuMem = s.cpuMem := rfl
@[simp] theorem State.setDraws_pending (s : State) (v : Nat) : (s.setDraws v).pending = s.pending := rfl
@[simp] theorem State.setDraws_readData (s : State) (v : Nat) : (s.setDraws v).readData = s.readData := rfl
@[simp] theorem State.setDraws_loop (s : State) (v : Nat) : (s.setDraws v).loop = s.loop := rfl
@[simp] theorem State.setDraws_cadence (s : State) (v : Nat) : (s.setDraws v).cadence = s.cadence := rfl
@[simp] theorem State.setDraws_draws (s : State) (v : Nat) : (s.setDraws v).draws = v := rfl

@[simp] theorem State.setView_cfg (s : State) (W H : Nat) (r : Rect) : (s.setView W H r).cfg = s.cfg := rfl
@[simp] theorem State.setView_fb (s : State) (W H : Nat) (r : Rect) : (s.setView W H r).fb = s.fb := rfl
@[simp] theorem State.setView_fbtex (s : State) (W H : Nat) (r : Rect) : (s.setView W H r).fbtex = s.fbtex := rfl
@[simp] theorem State.setView_pal (s : State) (W H : Nat) (r : Rect) : (s.setView W H r).pal = s.pal := rfl
@[simp] theorem State.setView_paltex (s : State) (W H : Nat) (r : Rect) : (s.setView W H r).paltex = s.paltex := rfl
@[simp] theorem State.setView_palstage (s : State) (W H : Nat) (r : Rect) : (s.setView W H r).palstage = s.palstage := rfl
@[simp] theorem State.setView_status (s : State) (W H : Nat) (r : Rect) : (s.setView W H r).status = s.status := rfl
@[simp] theorem State.setView_result (s : State) (W H : Nat) (r : Rect) : (s.setView W H r).result = s.result := rfl
@[simp] theorem State.setView_warp (s : State) (W H : Nat) (r : Rect) : (s.setView W H r).warp = s.warp := rfl
@[simp] theorem State.setView_scan (s : State) (W H : Nat) (r : Rect) : (s.setView W H r).scan = s.scan := rfl
@[simp] theorem State.setView_vp (s : State) (W H : Nat) (r : Rect) : (s.setView W H r).vp = r := rfl
@[simp] theorem State.setView_surfW (s : State) (W H : Nat) (r : Rect) : (s.setView W H r).surfW = W := rfl
@[simp] theorem State.setView_surfH (s : State) (W H : Nat) (r : Rect) : (s.setView W H r).surfH = H := rfl
@[simp] theorem State.setView_surf (s : State) (W H : Nat) (r : Rect) : (s.setView W H r).surf = s.surf := rfl
@[simp] theorem State.setView_presented (s : State) (W H : Nat) (r : Rect) : (s.setView W H r).presented = s.presented := rfl
@[simp] theorem State.setView_cpuMem (s : State) (W H : Nat) (r : Rect) : (s.setView W H r).cpuMem = s.cpuMem := rfl
@[simp] theorem State.setView_pending (s : State) (W H : Nat) (r : Rect) : (s.setView W H r).pending = s.pending := rfl
@[simp] theorem State.setView_readData (s : State) (W H : Nat) (r : Rect) : (s.setView W H r).readData = s.readData := rfl
@[simp] theorem State.setView_loop (s : State) (W H : Nat) (r : Rect) : (s.setView W H r).loop = s.loop := rfl
@[simp] theorem State.setView_cadence (s : State) (W H : Nat) (r : Rect) : (s.setView W H r).cadence = s.cadence := rfl
@[simp] theorem State.setView_draws (s : State) (W H : Nat) (r : Rect) : (s.setView W H r).draws = s.draws := rfl

end Sys2Proof.Machine
end

