-- ==== Sys2Proof/Laws/Display.lean ====
section
/-! SUPPORT. The arithmetic of the Viewport Mapper and of the Display Decoder, one lemma per operation. -/

namespace Sys2Proof.Machine

/-- The integer part of the fitting scale is the smaller of the two natural quotients. -/
theorem floor_fitScale (c : Cfg) (W H : Nat) :
    ⌊fitScale c W H⌋ = ((min (W / c.width) (H / c.height) : ℕ) : ℤ) := by
  have hmono : Monotone (fun q : ℚ => ⌊q⌋) := Int.floor_mono
  have : ⌊fitScale c W H⌋ = min ⌊(W : ℚ) / c.width⌋ ⌊(H : ℚ) / c.height⌋ := hmono.map_min
  rw [this, Rat.floor_natCast_div_natCast, Rat.floor_natCast_div_natCast]
  simp

/-- A covered pixel of a rectangle has normalised coordinates in [0, 1), and the rectangle has area. -/
theorem covered_norm {vp : Rect} {px py : Nat} (h : Covered vp px py) :
    (0 ≤ normU vp px ∧ normU vp px < 1) ∧ (0 ≤ normV vp py ∧ normV vp py < 1) ∧ 0 < vp.w ∧ 0 < vp.h := by
  obtain ⟨⟨h1, h2⟩, h3, h4⟩ := h
  have hw : 0 < vp.w := by linarith
  have hh : 0 < vp.h := by linarith
  unfold normU normV
  refine ⟨⟨div_nonneg (by linarith) hw.le, ?_⟩, ⟨div_nonneg (by linarith) hh.le, ?_⟩, hw, hh⟩
  · rw [div_lt_one hw]; linarith
  · rw [div_lt_one hh]; linarith

/-- Below 1 the clamp of the cell changes nothing. -/
theorem cellOf_eq_floor {size : Nat} {t : ℚ} (hs : 1 ≤ size) (h0 : 0 ≤ t) (h1 : t < 1) :
    (cellOf size t : ℤ) = ⌊t * (size : ℚ)⌋ := by
  have hs' : (0 : ℚ) < size := by exact_mod_cast hs
  have ha : 0 ≤ ⌊t * (size : ℚ)⌋ := Int.floor_nonneg.2 (by positivity)
  have hb : ⌊t * (size : ℚ)⌋ < size := by
    rw [Int.floor_lt]; push_cast; nlinarith
  unfold cellOf
  omega

theorem strength_bounds {n : BitVec 9} (h : n.toNat ≤ 256) : 0 ≤ strength n ∧ strength n ≤ 1 := by
  refine ⟨by unfold strength; positivity, ?_⟩
  rw [strength, div_le_one (by norm_num)]
  exact_mod_cast h

theorem scanWave_mem (c : Cfg) (py : Nat) : scanWave c py ∈ c.wave := by
  have h := Nat.mod_lt py (List.length_pos_of_ne_nil c.wave_bounds.1)
  rw [scanWave, List.getD_eq_getElem _ _ h]
  exact List.getElem_mem _

/-- The wave's list is the values of the first period, which then repeat (log 3). -/
theorem scanWave_first_period (c : Cfg) {i : Nat} (h : i < c.wave.length) : scanWave c i = c.wave[i] := by
  rw [scanWave, Nat.mod_eq_of_lt h, List.getD_eq_getElem _ _ h]

theorem scanWave_periodic (c : Cfg) (n : Nat) : scanWave c (n + c.wave.length) = scanWave c n := by
  simp [scanWave]

/-- In the range of a channel the quantiser is the floor of `z + 1/2`, with nothing lost to 8 bits. -/
theorem quantise_toNat {z : ℚ} (h0 : 0 ≤ z) (h1 : z ≤ 255) : ((quantise z).toNat : ℤ) = ⌊z + 1 / 2⌋ := by
  have a : 0 ≤ ⌊z + 1 / 2⌋ := Int.floor_nonneg.2 (by linarith)
  have b : ⌊z + 1 / 2⌋ < 256 := by rw [Int.floor_lt]; push_cast; linarith
  rw [quantise, BitVec.toNat_ofNat]
  omega

/-- A surface built pixel by pixel shows at each pixel inside it what was put there. -/
theorem colourAt_inside {W H : Nat} (f : Nat → Nat → Colour) {px py : Nat} (hx : px < W) (hy : py < H) :
    Frame.colourAt ((List.range H).map fun py => (List.range W).map fun px => f px py) px py =
      some (f px py) := by
  simp [Frame.colourAt, hx, hy]

/-- A surface shows nothing outside itself. -/
theorem colourAt_outside {W H : Nat} (f : Nat → Nat → Colour) {px py : Nat} (h : ¬(px < W ∧ py < H)) :
    Frame.colourAt ((List.range H).map fun py => (List.range W).map fun px => f px py) px py = none := by
  unfold Frame.colourAt
  by_cases hy : py < H
  · have hx : ¬px < W := fun hx => h ⟨hx, hy⟩
    simp [hy, hx]
  · simp [hy]

theorem decodedFrame_shape (s : State) :
    s.decodedFrame.length = s.surfH ∧ ∀ row ∈ s.decodedFrame, row.length = s.surfW := by
  simp [State.decodedFrame]

theorem unspecifiedFrame_shape (draw W H : Nat) :
    (unspecifiedFrame draw W H).length = H ∧ ∀ row ∈ unspecifiedFrame draw W H, row.length = W := by
  simp [unspecifiedFrame]

end Sys2Proof.Machine
end

