-- ==== Sys2Proof/Laws/Memory.lean ====
section
/-! SUPPORT. CPU memory: what a read gives after a write, and that every operation keeps the canonical form
(log 7). -/

namespace Sys2Proof.Machine

theorem Memory.read_nil (a : Nat) : Memory.read [] a = Memory.unlisted := rfl

theorem Memory.read_cons (c : Host.Cell) (m : Memory) (a : Nat) :
    Memory.read (c :: m) a = if c.1 = a then c.2 else Memory.read m a := rfl

/-- An address below or absent from all those listed reads as unlisted. -/
theorem Memory.read_of_notMem (m : Memory) (a : Nat) (h : ∀ c ∈ m, c.1 ≠ a) :
    Memory.read m a = Memory.unlisted := by
  induction m with
  | nil => rfl
  | cons c m ih =>
    rw [Memory.read_cons, if_neg (h c (by simp)), ih fun d hd => h d (by simp [hd])]

theorem Memory.mem_list {a : Nat} {v : Byte} {m : Memory} {c : Host.Cell} (h : c ∈ Memory.list a v m) :
    c = (a, v) ∨ c ∈ m := by
  unfold Memory.list at h
  split at h <;> simp_all

/-- Every pair after a write is the one written or was there before. -/
theorem Memory.mem_write {m : Memory} {a : Nat} {v : Byte} {c : Host.Cell} (h : c ∈ m.write a v) :
    c = (a, v) ∨ c ∈ m := by
  induction m with
  | nil => exact Memory.mem_list h
  | cons d m ih =>
    unfold Memory.write at h
    split at h
    · exact Memory.mem_list h
    · split at h
      · exact (Memory.mem_list h).imp_right fun k => by simp [k]
      · rcases List.mem_cons.1 h with rfl | k
        · simp
        · exact (ih k).imp_right fun k => by simp [k]

theorem Memory.wf_nil : Memory.wf [] := by simp [Memory.wf]

theorem Memory.wf_cons (c : Host.Cell) (m : Memory) :
    Memory.wf (c :: m) ↔ (∀ d ∈ m, c.1 < d.1) ∧ c.2 ≠ Memory.unlisted ∧ Memory.wf m := by
  simp only [Memory.wf, List.pairwise_cons, List.mem_cons, forall_eq_or_imp]
  tauto

theorem Memory.wf_list {a : Nat} {v : Byte} {m : Memory} (h : m.wf) (ha : ∀ c ∈ m, a < c.1) :
    (Memory.list a v m).wf := by
  unfold Memory.list
  split
  · exact h
  · exact (Memory.wf_cons _ _).2 ⟨ha, by assumption, h⟩

/-- A write keeps the canonical form. -/
theorem Memory.write_wf {m : Memory} (h : m.wf) (a : Nat) (v : Byte) : (m.write a v).wf := by
  induction m with
  | nil => exact Memory.wf_list h (by simp)
  | cons c m ih =>
    obtain ⟨h1, h2, h3⟩ := (Memory.wf_cons _ _).1 h
    unfold Memory.write
    split
    · rename_i hlt
      refine Memory.wf_list h fun d hd => ?_
      rcases List.mem_cons.1 hd with rfl | hd
      · exact hlt
      · exact hlt.trans (h1 d hd)
    · split
      · rename_i _ he
        exact Memory.wf_list h3 fun d hd => he ▸ h1 d hd
      · refine (Memory.wf_cons _ _).2 ⟨fun d hd => ?_, h2, ih h3⟩
        rcases Memory.mem_write hd with rfl | hd
        · show c.1 < a
          omega
        · exact h1 d hd

/-- Several writes keep the canonical form. -/
theorem Memory.writeAll_wf {m : Memory} (h : m.wf) (ws : List Host.Cell) : (m.writeAll ws).wf := by
  induction ws generalizing m with
  | nil => exact h
  | cons c ws ih => exact ih (Memory.write_wf h c.1 c.2)

/-- Every pair after several writes is one of those written or was there before. -/
theorem Memory.mem_writeAll {m : Memory} {ws : List Host.Cell} {c : Host.Cell} (h : c ∈ m.writeAll ws) :
    c ∈ ws ∨ c ∈ m := by
  induction ws generalizing m with
  | nil => exact Or.inr h
  | cons d ws ih =>
    rcases ih h with k | k
    · simp [k]
    · rcases Memory.mem_write k with rfl | k
      · simp
      · simp [k]

theorem Memory.read_list_same (a : Nat) (v : Byte) (m : Memory) (h : ∀ c ∈ m, c.1 ≠ a) :
    Memory.read (Memory.list a v m) a = v := by
  unfold Memory.list
  split
  · rw [Memory.read_of_notMem m a h]; symm; assumption
  · simp [Memory.read_cons]

theorem Memory.read_list_other (a b : Nat) (v : Byte) (m : Memory) (h : a ≠ b) :
    Memory.read (Memory.list a v m) b = Memory.read m b := by
  unfold Memory.list
  split
  · rfl
  · simp [Memory.read_cons, h]

/-- A read at the address written gives the byte written. -/
theorem Memory.read_write_same {m : Memory} (h : m.wf) (a : Nat) (v : Byte) :
    (m.write a v).read a = v := by
  induction m with
  | nil => exact Memory.read_list_same a v [] (by simp)
  | cons c m ih =>
    obtain ⟨h1, h2, h3⟩ := (Memory.wf_cons _ _).1 h
    unfold Memory.write
    split
    · rename_i hlt
      refine Memory.read_list_same _ _ _ fun d hd => ?_
      rcases List.mem_cons.1 hd with rfl | hd
      · omega
      · have := h1 d hd; omega
    · split
      · rename_i _ he
        exact Memory.read_list_same _ _ _ fun d hd => by have := h1 d hd; omega
      · rename_i _ he
        rw [Memory.read_cons, if_neg (Ne.symm he), ih h3]

/-- A write leaves every other address as it was. -/
theorem Memory.read_write_other (m : Memory) (a b : Nat) (v : Byte) (h : a ≠ b) :
    (m.write a v).read b = m.read b := by
  induction m with
  | nil => exact Memory.read_list_other a b v [] h
  | cons c m ih =>
    unfold Memory.write
    split
    · exact Memory.read_list_other _ _ _ _ h
    · split
      · rename_i _ he
        rw [Memory.read_list_other _ _ _ _ h, Memory.read_cons, if_neg (he ▸ h)]
      · rw [Memory.read_cons, Memory.read_cons, ih]

/-- Several writes leave every address outside them as it was. -/
theorem Memory.read_writeAll_other (m : Memory) (ws : List Host.Cell) (b : Nat) (h : ∀ c ∈ ws, c.1 ≠ b) :
    (m.writeAll ws).read b = m.read b := by
  induction ws generalizing m with
  | nil => rfl
  | cons c ws ih =>
    rw [Memory.writeAll, ih _ fun d hd => h d (by simp [hd]), Memory.read_write_other _ _ _ _ (h c (by simp))]

/-- Several writes leave at each address the last byte written there. -/
theorem Memory.read_writeAll_last {m : Memory} (h : m.wf) (before after : List Host.Cell) (a : Nat) (v : Byte)
    (ha : ∀ c ∈ after, c.1 ≠ a) : (m.writeAll (before ++ (a, v) :: after)).read a = v := by
  induction before generalizing m with
  | nil =>
    rw [List.nil_append, Memory.writeAll, Memory.read_writeAll_other _ _ _ ha]
    exact Memory.read_write_same h a v
  | cons c before ih => exact ih (Memory.write_wf h c.1 c.2)

/-- Reset's CPU memory is in canonical form. -/
theorem Memory.reset_wf : State.reset.cpuMem.wf := Memory.wf_nil

end Sys2Proof.Machine
end

