-- ==== Sys2Proof/Laws/PerInstr.lean ====
section
/-! SUPPORT. Per-instruction families: statements about a command as syntax, one lemma per constructor. -/

namespace Sys2Proof.Laws.OpcodeField

/-- The opcode field of a command's word is the command's opcode (30_encoding R80, R84). -/
def Statement (i : Instr) : Prop := opField (encode i) = BitVec.ofNat 4 i.opcode

theorem of_encode (i : Instr) : Statement i := by
  apply BitVec.eq_of_toNat_eq
  have h1 := encode_toNat i
  have h2 := operandBits_lt i
  have h3 := opcode_range i
  rw [opField_toNat, BitVec.toNat_ofNat]
  omega

theorem setpix (x y c8 : Nat) : Statement (.setpix x y c8) := of_encode _
theorem getpix (x y : Nat) : Statement (.getpix x y) := of_encode _
theorem loadfb : Statement .loadfb := of_encode _
theorem colorat (idx8 : Nat) : Statement (.colorat idx8) := of_encode _
theorem loadpal : Statement .loadpal := of_encode _
theorem uploadfb (y0 n : Nat) : Statement (.uploadfb y0 n) := of_encode _
theorem uploadpal : Statement .uploadpal := of_encode _
theorem decode : Statement .decode := of_encode _
theorem vport (W H : Nat) : Statement (.vport W H) := of_encode _

end Sys2Proof.Laws.OpcodeField
end

