-- ==== Sys2Proof/Laws/Step.lean ====
section
/-! SUPPORT. What a step can do, said once; and how commands and steps compose. -/

namespace Sys2Proof.Machine

theorem step_idle (s : State) (h : s.pending = []) : step s = .next s := by
  simp [step, stepEvent, h]

theorem heldBack_running (e : Event) : heldBack .running e = false := rfl

theorem heldBack_terminated (e : Event) : heldBack .terminated e = false := rfl

theorem heldBack_paused (e : Event) : heldBack .paused e = isFrameWork e := rfl

/-- The host holds back nothing but frame work, and only while paused. -/
theorem heldBack_iff (m : LoopMode) (e : Event) :
    heldBack m e = true ↔ m = .paused ∧ isFrameWork e = true := by
  cases m <;> simp [heldBack]

/-- An event that is no frame work is held back in no mode. -/
theorem heldBack_of_not_frame {e : Event} (h : isFrameWork e = false) (m : LoopMode) : heldBack m e = false := by
  cases m <;> simp [heldBack, h]

theorem isFrameCommand_iff (i : Instr) : isFrameCommand i = true ↔ FrameCommand i := by
  cases i <;> simp [isFrameCommand, FrameCommand]

theorem isFrameWork_register {n : Nat} (h : n ≠ 0) (v : Word) : isFrameWork (.regWrite n v) = false := by
  simp [isFrameWork, h]

theorem isFrameWork_command {w : Word} {i : Instr} (h : decodeWord w = .ok i) :
    isFrameWork (.regWrite 0 w) = isFrameCommand i := by
  simp [isFrameWork, isFrameWord, h]

theorem isFrameWork_reserved {w : Word} {e : DecodeError} (h : decodeWord w = .error e) :
    isFrameWork (.regWrite 0 w) = false := by
  simp [isFrameWork, isFrameWord, h]

theorem step_event (s : State) (e : Event) (rest : List Event) (h : s.pending = e :: rest)
    (hb : heldBack s.loop e = false) : step s = handle e (s.setPending rest) := by
  simp [step, stepEvent, h, hb]

theorem step_heldBack (s : State) (e : Event) (rest : List Event) (h : s.pending = e :: rest)
    (hb : heldBack s.loop e = true) : step s = .next (s.setPending rest) := by
  simp [step, stepEvent, h, hb]

/-- A step that answers a next state had no event, skipped the first one, or handled it. -/
theorem step_cases {s t : State} (h : step s = .next t) :
    (s.pending = [] ∧ t = s) ∨
      ∃ e rest, s.pending = e :: rest ∧
        ((heldBack s.loop e = true ∧ t = s.setPending rest) ∨
          (heldBack s.loop e = false ∧ handle e (s.setPending rest) = .next t)) := by
  cases hp : s.pending with
  | nil =>
    rw [step_idle s hp] at h
    exact Or.inl ⟨rfl, (Host.Outcome.next.inj h).symm⟩
  | cons e rest =>
    refine Or.inr ⟨e, rest, rfl, ?_⟩
    cases hb : heldBack s.loop e
    · rw [step_event s e rest hp hb] at h
      exact Or.inr ⟨rfl, h⟩
    · rw [step_heldBack s e rest hp hb] at h
      exact Or.inl ⟨rfl, (Host.Outcome.next.inj h).symm⟩

theorem busWrite_zero (v : Word) (s : State) : busWrite 0 v s = runCommand v s := rfl

theorem busWrite_pos {n : Nat} (h : n ≠ 0) (v : Word) (s : State) : busWrite n v s = .next (s.writeReg n v) := by
  cases n with
  | zero => exact absurd rfl h
  | succ n => rfl

theorem runCommand_ok {w : Word} {i : Instr} (h : decodeWord w = .ok i) (s : State) :
    runCommand w s = exec i s := by
  simp [runCommand, h]

theorem runCommand_error {w : Word} {e : DecodeError} (h : decodeWord w = .error e) (s : State) :
    runCommand w s = .next s.rejectWord := by
  simp [runCommand, h]

/-- What a call of the CPU collaborator can do: change CPU memory at addresses that exist, or stop. -/
theorem cpuCall_cases (ws : List Host.Cell) (s : State) :
    ((∀ c ∈ ws, c.1 < 2 ^ s.cfg.addrBits) ∧ cpuCall ws s = .next (s.setCpuMem (s.cpuMem.writeAll ws))) ∨
      ∃ c ∈ ws, 2 ^ s.cfg.addrBits ≤ c.1 ∧ cpuCall ws s = .fault (.noSuchCpuAddress c.1) := by
  unfold cpuCall
  split
  · rename_i c hc
    refine Or.inr ⟨c, List.mem_of_find?_eq_some hc, ?_, rfl⟩
    simpa [cpuAddress] using List.find?_some hc
  · rename_i hn
    exact Or.inl ⟨by simpa [cpuAddress] using hn, rfl⟩

/-- A resize notification changes nothing but what is pending. -/
theorem onResize_cases (W H : BitVec 14) (s : State) :
    (s.loop = .terminated ∧ onResize W H s = s) ∨
      (s.loop ≠ .terminated ∧
        onResize W H s = s.setPending (command (.vport W.toNat H.toNat) :: s.pending)) := by
  unfold onResize
  cases h : s.loop <;> simp

/-- A visibility event changes nothing but the host's mode, and never ends or restarts a terminated host. -/
theorem onVisibility_cases (visible : Bool) (s : State) :
    onVisibility visible s = s ∨ (s.loop = .running ∧ onVisibility visible s = s.setLoop .paused) ∨
      (s.loop = .paused ∧ onVisibility visible s = s.setLoop .running) := by
  unfold onVisibility
  cases h : s.loop <;> cases visible <;> simp

/-- The top of the loop changes nothing but the cadence and what is pending, and only while Running. -/
theorem onIterate_cases (it : Iteration) (s : State) :
    (s.loop ≠ .running ∧ onIterate it s = s) ∨
      (s.loop = .running ∧ onIterate it s =
        (s.setCadence (some (it.cadence s.cfg))).setPending
          (it.actions (it.cadence s.cfg).budget ++ s.pending)) := by
  unfold onIterate
  cases h : s.loop <;> simp

/-- What a VPORT does to the surface before it latches the size: nothing, or a wholly unspecified one. -/
theorem resizeSurf_cases (s : State) (W H : Nat) :
    ((W = s.surfW ∧ H = s.surfH) ∧ s.resizeSurf W H = s) ∨
      (¬(W = s.surfW ∧ H = s.surfH) ∧
        s.resizeSurf W H = (s.setSurf (unspecifiedFrame s.draws W H)).setDraws (s.draws + 1)) := by
  unfold State.resizeSurf
  by_cases h : W = s.surfW ∧ H = s.surfH
  · exact Or.inl ⟨h, if_neg (by tauto)⟩
  · exact Or.inr ⟨h, if_pos (by tauto)⟩

theorem execAll_nil (s : State) : execAll [] s = .next s := rfl

theorem execAll_cons {i : Instr} {s t : State} (is : List Instr) (h : exec i s = .next t) :
    execAll (i :: is) s = execAll is t := by
  simp [execAll, h]

theorem execAll_append {is : List Instr} {s t : State} (js : List Instr) (h : execAll is s = .next t) :
    execAll (is ++ js) s = execAll js t := by
  induction is generalizing s with
  | nil => rw [Host.Outcome.next.inj h]; rfl
  | cons i is ih =>
    rw [List.cons_append]
    cases he : exec i s with
    | next u =>
      rw [execAll_cons _ he] at h ⊢
      exact ih h
    | fault f => simp [execAll, he] at h
    | refused r => simp [execAll, he] at h

theorem steps_succ {s t : State} (n : Nat) (h : step s = .next t) : steps (n + 1) s = steps n t := by
  simp [steps, h]

theorem steps_add {n : Nat} {s t : State} (m : Nat) (h : steps n s = .next t) : steps (n + m) s = steps m t := by
  induction n generalizing s with
  | zero => rw [Host.Outcome.next.inj h, Nat.zero_add]
  | succ n ih =>
    rw [Nat.succ_add]
    cases he : step s with
    | next u =>
      rw [steps_succ _ he] at h ⊢
      exact ih h
    | fault f => simp [steps, he] at h
    | refused r => simp [steps, he] at h

end Sys2Proof.Machine
end

