-- ==== Sys2Proof/Laws/Stores.lean ====
section
/-! SUPPORT. What the shared operations over the stores and the register port give, once each. -/

namespace Sys2Proof.Machine

theorem inLogical_iff (c : Cfg) (x y : Nat) : inLogical c x y = true ↔ x < c.width ∧ y < c.height := by
  simp [inLogical]

/-- WIDTH is even, so the byte of a pixel lies in its own row. -/
theorem pixByte_eq (c : Cfg) (x y : Nat) : pixByte c x y = y * (c.width / 2) + x / 2 := by
  obtain ⟨w, hw⟩ : ∃ w, c.width = 2 * w := ⟨c.width / 2, by have := c.width_bounds; omega⟩
  have e : y * (2 * w) = 2 * (y * w) := by ring
  rw [pixByte, hw, e, show 2 * w / 2 = w by omega]
  omega

theorem fbBytes_eq (c : Cfg) : c.fbBytes = c.height * (c.width / 2) := by
  obtain ⟨w, hw⟩ : ∃ w, c.width = 2 * w := ⟨c.width / 2, by have := c.width_bounds; omega⟩
  have e : 2 * w * c.height = 2 * (c.height * w) := by ring
  rw [Params.fbBytes, hw, e, show 2 * w / 2 = w by omega]
  omega

theorem getD_set_same {l : List Byte} {i : Nat} (v : Byte) (h : i < l.length) : (l.set i v).getD i 0 = v := by
  simp [List.getD, h]

theorem getD_set_other {i j : Nat} (l : List Byte) (v : Byte) (h : i ≠ j) :
    (l.set i v).getD j 0 = l.getD j 0 := by
  simp [List.getD, h]

theorem fbRow_length (s : State) (r : Nat) : (s.fbRow r).length = rowBytes s.cfg := by
  simp [State.fbRow]

theorem fbRow_getD (s : State) (r t : Nat) (h : t < rowBytes s.cfg) :
    (s.fbRow r).getD t 0 = s.fbByte (r * rowBytes s.cfg + t) := by
  simp [State.fbRow, List.getD, h]

theorem window_length (s : State) : s.window.length = s.cfg.fbBytes := by
  simp [State.window]

theorem window_get (s : State) (i : Nat) (h : i < s.cfg.fbBytes) :
    s.window[i]? = some (s.memRead (s.cfg.fbBase + i)) := by
  simp [State.window, h]

theorem staged_get (s : State) (k : Fin 16) : s.staged[k] = Colour.ofWord s.palstage[k] := by
  simp [State.staged]

theorem saturate_toNat (v : Word) : (saturate v).toNat = min v.toNat 256 := by
  rw [saturate, BitVec.toNat_ofNat]
  omega

/-- A palette register number writes its own staging register and nothing else. -/
theorem writeReg_palstage (s : State) (k : Fin 16) (v : Word) :
    s.writeReg (0x10 + k.val) v = s.setPalstage (s.palstage.set k.val v) := by
  have := k.isLt
  unfold State.writeReg
  split <;> first | omega | skip
  rw [dif_pos (by omega)]
  simp

/-- A palette register number reads its own staging register. -/
theorem readReg_palstage (s : State) (k : Fin 16) : s.readReg (0x10 + k.val) = s.palstage[k] := by
  have := k.isLt
  unfold State.readReg
  split <;> first | omega | skip
  rw [dif_pos (by omega)]
  simp

/-- What a register write can change: WARP, SCAN or the staging registers, and nothing else. -/
theorem writeReg_cases (s : State) (n : Nat) (v : Word) :
    s.writeReg n v = s ∨ s.writeReg n v = s.setWarp (saturate v) ∨ s.writeReg n v = s.setScan (saturate v) ∨
      ∃ p, s.writeReg n v = s.setPalstage p := by
  unfold State.writeReg
  split
  · exact Or.inl rfl
  · exact Or.inl rfl
  · exact Or.inl rfl
  · exact Or.inr (Or.inl rfl)
  · exact Or.inr (Or.inr (Or.inl rfl))
  · split
    · exact Or.inr (Or.inr (Or.inr ⟨_, rfl⟩))
    · exact Or.inl rfl

theorem reject_eq (s : State) : s.reject = s.setStatus (s.status ||| 1) := rfl

theorem rejectWord_eq (s : State) : s.rejectWord = s.setStatus (s.status ||| 2) := rfl

end Sys2Proof.Machine
end

