-- ==== Sys2Proof/Tests/Slice0.lean ====
section
/-! SUPPORT. The model's own tests: named theorems. Expected values come from spec/95_test_vectors.md (its ids
are in the docstrings) or from the formats of 30_encoding. The theorems `test_witness_<Name>` show, for each
statement of Obligations.lean with hypotheses, concrete values that meet them. -/

namespace Sys2Proof.Tests

open Sys2Proof.Machine

/-! ### Helpers -/

/-- One field of the state an outcome answers. -/
def fieldOf {α : Type} (f : State → α) (o : Host.Outcome State Fault Refusal) : Option α :=
  match o with
  | .next s => some (f s)
  | .fault _ => none
  | .refused _ => none

/-- PALREF of 95_test_vectors section 0. -/
def palref (k : Fin 16) : Colour :=
  ⟨BitVec.ofNat 8 (17 * k.val), BitVec.ofNat 8 (255 - 17 * k.val), BitVec.ofNat 8 (17 * k.val), 255⟩

/-- T2 with the texture, palette and viewport of the end state of program P2; its FB is that of vector FB3. -/
def demo : State :=
  { State.resetOf Config.t2 0 with
    fb := [0x12, 0x00, 0x00, 0x0E]
    fbtex := [[0x01, 0x23], [0x45, 0x67]]
    pal := Vector.ofFn palref
    paltex := Vector.ofFn palref
    palstage := Vector.ofFn fun k => (palref k).toWord
    surfW := 8
    surfH := 4
    surf := List.replicate 4 (List.replicate 8 Colour.black)
    vp := ⟨0, 0, 8, 4⟩
    cpuMem := [(0x8000, 0x01), (0x8001, 0x23), (0x8002, 0x45), (0x8003, 0x67)] }

/-- T2 with the continuous policy. -/
def t2c : Cfg :=
  { (OpenParams.mk 2 0x8000 16 .continuous [0, 1]).withDefaults with
    width := 4
    ok := by decide +kernel }

/-- T1 with the continuous policy. -/
def t1c : Cfg :=
  { (OpenParams.mk 200 0x8000 16 .continuous [0, 1]).withDefaults with ok := by decide +kernel }

/-- T1 with the viewport of 2.6's warp vectors and WARP = 256. -/
def warped : State := { State.resetOf Config.t1 0 with warp := 256, surfW := 640, surfH := 400, vp := ⟨0, 0, 640, 400⟩ }

/-! ### Well-formedness and configurations -/

theorem test_setpix_refuses_each_wide_operand :
    ¬(Instr.setpix 1024 0 0).WellFormed ∧ ¬(Instr.setpix 0 1024 0).WellFormed ∧
    ¬(Instr.setpix 0 0 256).WellFormed := by decide
theorem test_getpix_refuses_each_wide_operand :
    ¬(Instr.getpix 1024 0).WellFormed ∧ ¬(Instr.getpix 0 1024).WellFormed := by decide
theorem test_colorat_refuses_a_wide_operand : ¬(Instr.colorat 256).WellFormed := by decide
theorem test_uploadfb_refuses_each_wide_operand :
    ¬(Instr.uploadfb 2048 0).WellFormed ∧ ¬(Instr.uploadfb 0 2048).WellFormed := by decide
theorem test_vport_refuses_each_wide_operand :
    ¬(Instr.vport 16384 0).WellFormed ∧ ¬(Instr.vport 0 16384).WellFormed := by decide

/-- 20_memory R60: odd WIDTH is refused; so are the other constraints of 00_scope R6. -/
theorem test_illegal_configurations_are_refused :
    Cfg.ofParams { Config.t2.toParams with width := 5 } = none ∧
    Cfg.ofParams { Config.t2.toParams with width := 1026 } = none ∧
    Cfg.ofParams { Config.t2.toParams with height := 0 } = none ∧
    Cfg.ofParams { Config.t2.toParams with fbBase := 0xFFFD } = none ∧
    Cfg.ofParams { Config.t2.toParams with kWarpX := -1 } = none ∧
    Cfg.ofParams { Config.t2.toParams with kScan := 2 } = none ∧
    Cfg.ofParams { Config.t2.toParams with wave := [] } = none ∧
    Cfg.ofParams { Config.t2.toParams with defaultRefreshHz := 0 } = none := by decide +kernel
theorem test_a_legal_configuration_is_admitted :
    (Cfg.ofParams { Config.t2.toParams with fbBase := 0xFFFC }).isSome = true := by decide +kernel

/-! ### Decoding -/

/-- EN1, EN2: `op | c8 | y | x`. -/
theorem test_decode_setpix :
    decodeWord 0x11B00805 = .ok (.setpix 5 2 0x1B) ∧ decodeWord 0x1FFFFFFF = .ok (.setpix 1023 1023 0xFF) ∧
    decodeWord (0b0001#4 ++ 0b10000001#8 ++ 0b1000000010#10 ++ 0b1000000100#10) = .ok (.setpix 516 514 129) := by
  decide
/-- EN3, EN4. -/
theorem test_decode_getpix :
    decodeWord 0x20000805 = .ok (.getpix 5 2) ∧ decodeWord 0x2AB00805 = .ok (.getpix 5 2) := by decide
/-- EN5, EN18. -/
theorem test_decode_loadfb : decodeWord 0x30000000 = .ok .loadfb ∧ decodeWord 0x3FFFFFFF = .ok .loadfb := by decide
/-- EN6. -/
theorem test_decode_colorat :
    decodeWord 0x40000013 = .ok (.colorat 0x13) ∧ decodeWord 0x4FFFFF81 = .ok (.colorat 0x81) := by decide
/-- EN7. -/
theorem test_decode_loadpal : decodeWord 0x50000000 = .ok .loadpal := by decide
/-- EN8, EN9. -/
theorem test_decode_uploadfb :
    decodeWord 0x60064000 = .ok (.uploadfb 0 200) ∧ decodeWord 0x60000801 = .ok (.uploadfb 1 1) := by decide
/-- EN10. -/
theorem test_decode_uploadpal : decodeWord 0x70000000 = .ok .uploadpal := by decide
/-- EN11. -/
theorem test_decode_decode : decodeWord 0x80000000 = .ok .decode := by decide
/-- EN12, EN13, EN14. -/
theorem test_decode_vport :
    decodeWord 0x90640280 = .ok (.vport 640 400) ∧ decodeWord 0x90960320 = .ok (.vport 800 600) ∧
    decodeWord 0x9FFFFFFF = .ok (.vport 16383 16383) := by decide
/-- EN15 to EN17. -/
theorem test_reserved_opcodes_are_named :
    decodeWord 0x00000000 = .error (.reservedOpcode 0) ∧ decodeWord 0xA1234567 = .error (.reservedOpcode 0xA) ∧
    decodeWord 0xFFFFFFFF = .error (.reservedOpcode 0xF) := by decide
/-- The words of the assembly column of section 2.1. -/
theorem test_encode :
    encode (.setpix 5 2 0x1B) = 0x11B00805 ∧ encode (.getpix 5 2) = 0x20000805 ∧ encode .loadfb = 0x30000000 ∧
    encode (.colorat 0x13) = 0x40000013 ∧ encode .loadpal = 0x50000000 ∧
    encode (.uploadfb 0 200) = 0x60064000 ∧ encode .uploadpal = 0x70000000 ∧ encode .decode = 0x80000000 ∧
    encode (.vport 640 400) = 0x90640280 := by decide
/-- What the host asks: the table's word decodes, and runs as the first command after reset. -/
theorem test_host_reads_and_runs_a_table_word :
    decodeTableWord 32 0x60000801 = some (.uploadfb 1 1) ∧ decodeTableWord 32 0 = none ∧
    step (State.reset.withFetchWord 32 0x70000000) = .next (State.reset.setPaltex State.reset.pal) :=
  ⟨by decide, by decide, rfl⟩

/-! ### Commands -/

/-- FB1, FB3. -/
theorem test_setpix_stores :
    fieldOf State.fb (exec (.setpix 0 0 1) (demo.setFb [0, 0, 0, 0])) = some [0x10, 0x00, 0x00, 0x00] ∧
    fieldOf State.fb (exec (.setpix 3 1 0xFE) (demo.setFb [0x12, 0, 0, 0])) = some [0x12, 0x00, 0x00, 0x0E] := by
  decide +kernel
/-- FB9. -/
theorem test_setpix_rejects :
    fieldOf State.fb (exec (.setpix 4 0 5) demo) = some [0x12, 0x00, 0x00, 0x0E] ∧
    fieldOf State.status (exec (.setpix 4 0 5) demo) = some 1 := by decide +kernel
/-- FB4, FB5, FB6. -/
theorem test_getpix_reads :
    fieldOf State.result (exec (.getpix 1 0) demo) = some 2 ∧ fieldOf State.result (exec (.getpix 3 1) demo) = some 0xE ∧
    fieldOf State.result (exec (.getpix 2 1) demo) = some 0 := by decide +kernel
/-- FB10. -/
theorem test_getpix_rejects :
    fieldOf State.result (exec (.getpix 0 2) (demo.setResult 0xE)) = some 0xE ∧
    fieldOf State.status (exec (.getpix 0 2) demo) = some 1 := by decide +kernel
/-- FB8. -/
theorem test_loadfb_copies : fieldOf State.fb (exec .loadfb demo) = some [0x01, 0x23, 0x45, 0x67] := by
  decide +kernel
/-- FB13 to FB15. -/
theorem test_last_pixel_of_t1 :
    pixByte Config.t1 319 199 = 31999 ∧ Config.t1.fbBytes = 32000 ∧ inLogical Config.t1 319 199 = true ∧
    inLogical Config.t1 320 0 = false ∧ inLogical Config.t1 0 200 = false := by decide +kernel
/-- PA2 to PA4. -/
theorem test_colorat_masks :
    fieldOf State.result (exec (.colorat 0x13) demo) = some 0x33CC33FF ∧
    fieldOf State.result (exec (.colorat 0xFF) demo) = some 0xFF00FFFF ∧
    fieldOf State.result (exec (.colorat 0) demo) = some 0x00FF00FF := by decide +kernel
/-- PA6. -/
theorem test_loadpal_takes_the_staging_word :
    fieldOf (fun s => s.pal[3]) (exec .loadpal (demo.writeReg 0x13 0x12345678)) = some ⟨0x12, 0x34, 0x56, 0x78⟩ ∧
    fieldOf (fun s => s.pal[4]) (exec .loadpal (demo.writeReg 0x13 0x12345678)) = some (palref 4) := by decide +kernel
/-- TX2, TX3, TX4, from the FB of section 2.4. -/
theorem test_uploadfb_copies :
    fieldOf State.fbtex (exec (.uploadfb 1 1) ((demo.setFb [0x01, 0x23, 0x45, 0x67]).setFbtex [[1, 2], [3, 4]])) =
      some [[1, 2], [0x45, 0x67]] ∧
    fieldOf State.fbtex (exec (.uploadfb 2 0) demo) = some demo.fbtex := by decide +kernel
/-- TX5, TX6. -/
theorem test_uploadfb_rejects :
    fieldOf State.fbtex (exec (.uploadfb 1 2) demo) = some demo.fbtex ∧
    fieldOf State.status (exec (.uploadfb 1 2) demo) = some 1 ∧
    fieldOf State.status (exec (.uploadfb 3 0) demo) = some 1 := by decide +kernel
/-- TX7. -/
theorem test_uploadpal_copies :
    fieldOf State.paltex (exec .uploadpal (demo.setPaltex (Vector.replicate 16 Colour.black))) =
      some (Vector.ofFn palref) := by decide +kernel
/-- The frame of program P2: two rows of it, one for each logical row. -/
theorem test_decode_frame_of_p2 :
    fieldOf (fun s => s.surf[1]?) (exec .decode demo) =
      some (some ([0, 0, 1, 1, 2, 2, 3, 3].map palref)) ∧
    fieldOf (fun s => s.surf[2]?) (exec .decode demo) =
      some (some ([4, 4, 5, 5, 6, 6, 7, 7].map palref)) := by decide +kernel
/-- Row 1 of frame 3 of program P3 (DS2, DS3 among it). -/
theorem test_decode_scanlines_of_p3 :
    fieldOf (fun s => (s.surf[1]?).map (List.map Colour.toWord))
        (exec .decode ((demo.setScan 256).setFbtex [[0xF1, 0x23], [0x45, 0x67]])) =
      some (some [0x800080FF, 0x800080FF, 0x097709FF, 0x097709FF, 0x116F11FF, 0x116F11FF, 0x1A661AFF,
        0x1A661AFF]) := by decide +kernel
/-- VP3, VP6, VP10, continuous policy. -/
theorem test_vport_continuous :
    viewport t1c 800 600 = ⟨0, 50, 800, 500⟩ ∧ viewport t1c 100 100 = ⟨0, 75 / 4, 100, 125 / 2⟩ ∧
    viewport t1c 0 480 = ⟨0, 0, 0, 0⟩ := by decide +kernel
/-- VP3, VP6, VP10, integer policy; the size is latched. -/
theorem test_vport_integer :
    fieldOf State.vp (exec (.vport 800 600) (State.resetOf Config.t1 0)) = some ⟨80, 100, 640, 400⟩ ∧
    viewport Config.t1 100 100 = ⟨-110, -50, 320, 200⟩ ∧ viewport Config.t1 0 480 = ⟨0, 0, 0, 0⟩ ∧
    fieldOf State.surfH (exec (.vport 0 480) demo) = some 480 := by decide +kernel

/-! ### Display Decoder and host functions -/

/-- DW2, DW3, DW6: warped coordinates, cells and the border. -/
theorem test_warp_vectors :
    warpU Config.t1 1 (201 / 1280) (101 / 800) = 1168658883 / 8192000000 ∧
    warpV Config.t1 1 (201 / 1280) (101 / 800) = 356072421 / 3276800000 ∧
    cellOf 320 (1168658883 / 8192000000) = 45 ∧ cellOf 200 (356072421 / 3276800000) = 21 ∧
    warped.decodePixel 0 0 = Colour.black ∧
    InPicture (warpU Config.t1 1 (539 / 1280) (1 / 800)) (warpV Config.t1 1 (539 / 1280) (1 / 800)) := by
  decide +kernel
/-- DS6, DS9, DS10. -/
theorem test_darkening_vectors :
    darken ⟨17, 238, 17, 255⟩ (1 / 4) = ⟨0x0D, 0xB3, 0x0D, 0xFF⟩ ∧
    darken ⟨170, 85, 170, 0x80⟩ (3 / 8) = ⟨0x6A, 0x35, 0x6A, 0x80⟩ ∧ darkening Config.t1 192 201 = 3 / 8 := by
  decide +kernel
/-- DC1, DC2, DC5, DC13, DC14, DC17. -/
theorem test_coverage_vectors :
    ¬Covered ⟨0, 50, 800, 500⟩ 0 49 ∧ Covered ⟨0, 50, 800, 500⟩ 0 50 ∧ ¬Covered ⟨0, 50, 800, 500⟩ 0 550 ∧
    ¬Covered ⟨161 / 2, 100, 640, 400⟩ 79 100 ∧ Covered ⟨161 / 2, 100, 640, 400⟩ 80 100 ∧
    ¬Covered ⟨0, 0, 0, 0⟩ 0 0 := by decide +kernel
/-- The two monitors of section 2.7. -/
def twoMonitors : List Monitor := [⟨⟨0, 0, 1920, 1080⟩, some 60⟩, ⟨⟨1920, 0, 1280, 1024⟩, none⟩]
/-- MON1, MON3, MON4, MON5, MON8, MON9. -/
theorem test_monitor_vectors :
    selectMonitor 960 540 twoMonitors = some 0 ∧ selectMonitor 2000 1100 twoMonitors = some 1 ∧
    selectMonitor 1900 1090 twoMonitors = some 0 ∧ selectMonitor 1920 500 twoMonitors = some 1 ∧
    selectMonitor 150 50 [⟨⟨0, 0, 100, 100⟩, none⟩, ⟨⟨200, 0, 100, 100⟩, none⟩] = some 0 ∧
    selectMonitor 0 0 [] = none := by decide +kernel
/-- CB1, CB2, CB6, CB7. -/
theorem test_budget_vectors :
    cycleBudget Config.t1 60 = 166666 ∧ cycleBudget Config.t1 144 = 69444 ∧ cycleBudget Config.t1 20000000 = 0 ∧
    refreshRate Config.t1 none = 60 ∧ refreshRate Config.t1 (some 0) = 60 := by decide +kernel
/-- RG2 to RG7, PA7. -/
theorem test_register_vectors :
    (demo.writeReg 3 192).readReg 3 = 192 ∧ (demo.writeReg 4 1000).readReg 4 = 256 ∧
    (demo.writeReg 3 0xFFFFFFFF).readReg 3 = 256 ∧ (demo.writeReg 1 0xFFFFFFFF).readReg 1 = 0 ∧
    (demo.writeReg 5 7).readReg 5 = 0 ∧ demo.readReg 0x20 = 0 ∧
    (demo.writeReg 0x10 0xAABBCCDD).readReg 0x10 = 0xAABBCCDD := by decide +kernel
/-- RG9. -/
theorem test_reserved_word_after_a_rejection :
    fieldOf State.status (step ((demo.setStatus 1).setPending [.regWrite 0 0])) = some 3 := by decide +kernel
/-- P2, steps 1, 16 and 17. -/
theorem test_assemble_setpal :
    (assemble Config.t2 (.setpal (Vector.ofFn fun k => (palref k).toWord)))[0]? = some (.regWrite 0x10 0x00FF00FF) ∧
    (assemble Config.t2 (.setpal (Vector.ofFn fun k => (palref k).toWord))).drop 15 =
      [.regWrite 0x1F 0xFF00FFFF, .regWrite 0 0x50000000] := by decide +kernel
/-- P2, steps 20, 21 and 22, with UPLOADPAL of 30_encoding R90 between. -/
theorem test_assemble_frame :
    assemble Config.t2 .frame =
      [.regWrite 0 0x30000000, .regWrite 0 0x60001000, .regWrite 0 0x70000000, .regWrite 0 0x80000000] := by
  decide +kernel

/-! ### Witnesses: the hypotheses of each statement can be met, each clause at a boundary -/

/-- `demo` with one event pending. -/
def demoWith (e : Event) : State := demo.setPending [e]
/-- `demo` with one event pending and the host paused. -/
def pausedWith (e : Event) : State := (demoWith e).setLoop .paused

theorem test_witness_EncodeThenDecodeIsIdentity :
    (Instr.setpix 1023 1023 255).WellFormed ∧ (Instr.uploadfb 2047 2047).WellFormed ∧
    (Instr.vport 16383 16383).WellFormed := by decide
theorem test_witness_WordIsCommandExactlyWhenItMatches :
    decodeWord 0x10000000 = .ok (.setpix 0 0 0) ∧ decodeWord 0x9FFFFFFF = .ok (.vport 16383 16383) ∧
    decodeWord 0x0FFFFFFF = .error (.reservedOpcode 0) ∧ decodeWord 0xA0000000 = .error (.reservedOpcode 10) := by
  decide
theorem test_witness_FieldsAreReadFromTheFormats :
    (0x11B00805 : Word).toNat / 2 ^ 28 = 1 ∧ (0x2FF00805 : Word).toNat / 2 ^ 28 = 2 ∧
    (0x3FFFFFFF : Word).toNat / 2 ^ 28 = 3 ∧ (0x4FFFFFFF : Word).toNat / 2 ^ 28 = 4 ∧
    (0x50000000 : Word).toNat / 2 ^ 28 = 5 ∧ (0x6FFFFFFF : Word).toNat / 2 ^ 28 = 6 ∧
    (0x70000000 : Word).toNat / 2 ^ 28 = 7 ∧ (0x8FFFFFFF : Word).toNat / 2 ^ 28 = 8 ∧
    (0x9FFFFFFF : Word).toNat / 2 ^ 28 = 9 := by decide
theorem test_witness_ReservedBitsAreIgnored :
    decodeWord 0x20000805 = .ok (.getpix 5 2) ∧
    (0x2FF00805 : Word) &&& (Instr.getpix 5 2).usedBits = (0x20000805 : Word) &&& (Instr.getpix 5 2).usedBits := by
  decide
/-- The first clause running and, for a command that is none of the frame's, paused; the second for each of the
frame's commands. -/
theorem test_witness_StepRunsTheDecodedCommand :
    (demoWith (.regWrite 0 0x30000000)).pending = .regWrite 0 0x30000000 :: [] ∧
    (demoWith (.regWrite 0 0x30000000)).loop ≠ .paused ∧
    (pausedWith (.regWrite 0 0x50000000)).loop = .paused ∧ ¬FrameCommand .loadpal ∧
    (pausedWith (.regWrite 0 0x50000000)).pending = .regWrite 0 0x50000000 :: [] ∧
    decodeWord 0x30000000 = .ok .loadfb ∧ decodeWord 0x50000000 = .ok .loadpal ∧
    decodeWord 0x6FFFFFFF = .ok (.uploadfb 2047 2047) ∧ decodeWord 0x70000000 = .ok .uploadpal ∧
    decodeWord 0x80000000 = .ok .decode ∧ FrameCommand .loadfb ∧ FrameCommand (.uploadfb 2047 2047) ∧
    FrameCommand .uploadpal ∧ FrameCommand .decode := by
  refine ⟨rfl, by decide, rfl, by simp, rfl, by decide, by decide, by decide, by decide, by decide, ?_⟩
  exact ⟨.inl rfl, .inr (.inl ⟨_, _, rfl⟩), .inr (.inr (.inl rfl)), .inr (.inr (.inr rfl))⟩
theorem test_witness_ReservedOpcodeOnlySetsErrCmd :
    (demoWith (.regWrite 0 0x0FFFFFFF)).pending = .regWrite 0 0x0FFFFFFF :: [] ∧
    ReservedOpcode ((0x0FFFFFFF : Word).toNat / 2 ^ 28) ∧ ReservedOpcode ((0xA0000000 : Word).toNat / 2 ^ 28) ∧
    ReservedOpcode ((0xFFFFFFFF : Word).toNat / 2 ^ 28) := ⟨rfl, by decide, by decide, by decide⟩
theorem test_witness_OutOfRangeOperandOnlySetsErrRange :
    (demo.cfg.width ≤ 4 ∨ demo.cfg.height ≤ 0) ∧ (demo.cfg.width ≤ 0 ∨ demo.cfg.height ≤ 2) ∧
    demo.cfg.height < 1 + 2 ∧ demo.cfg.height < 3 + 0 := by decide +kernel
theorem test_witness_RejectedCommandHasNoOtherEffect :
    (∃ t, exec (.getpix 4 0) demo = .next t ∧ t.status ≠ demo.status) ∧ ∃ t, exec (.getpix 3 1) demo = .next t :=
  ⟨⟨_, rfl, by decide +kernel⟩, _, rfl⟩
theorem test_witness_FlagsStaySetUntilReset :
    (∃ t, step ((demoWith (.regWrite 1 0)).setStatus 3) = .next t) ∧
    ∀ rest, ((demoWith (.regWrite 1 0)).setStatus 3).pending ≠ .blockReset :: rest :=
  ⟨⟨_, rfl⟩, fun _ h => by cases h⟩
theorem test_witness_PixelAddressesLieInFb :
    (3 < Config.t2.width ∧ 1 < Config.t2.height) ∧ 319 < Config.t1.width ∧ 199 < Config.t1.height := by
  decide +kernel
theorem test_witness_PackWritesOneNibble :
    0 % 2 = 0 ∧ 1 % 2 = 1 ∧ unpack (pack 0x12 0 0xFE) 1 = 2 ∧ unpack (pack 0x12 1 0xFE) 0 = 1 := by decide
theorem test_witness_SetpixStoresOnePixel :
    demo.fb.length = demo.cfg.fbBytes ∧ 3 < demo.cfg.width ∧ 1 < demo.cfg.height ∧
    (2 < demo.cfg.width ∧ ¬(2 = 3 ∧ 1 = 1)) ∧ pixByte demo.cfg 3 1 ≠ 2 := by decide +kernel
theorem test_witness_GetpixAfterSetpix :
    demo.fb.length = demo.cfg.fbBytes ∧ 0 < demo.cfg.width ∧ 0 < demo.cfg.height ∧
    (1 < demo.cfg.width ∧ ¬(1 = 0 ∧ 0 = 0)) := by decide +kernel
theorem test_witness_ScanlineRoundTrip :
    demo.fb.length = demo.cfg.fbBytes ∧ 1 < demo.cfg.height ∧ 3 < demo.cfg.width := by decide +kernel
theorem test_witness_GetpixReturnsThePixel :
    (demo.cfg.width ≤ 4 ∨ demo.cfg.height ≤ 0) ∧ ¬(demo.cfg.width ≤ 3 ∨ demo.cfg.height ≤ 1) ∧
    (0x2AB00805 : Word).toNat / 2 ^ 28 = 2 := by decide +kernel
theorem test_witness_LoadfbCopiesTheWindow :
    3 < demo.cfg.fbBytes ∧ (0x30000000 : Word).toNat / 2 ^ 28 = 3 := by decide +kernel
theorem test_witness_FramebufferCommandsWriteOnlyTheirOwn :
    demo.fb.length = demo.cfg.fbBytes ∧ (∃ t, exec (.setpix 3 1 5) demo = .next t) ∧
    (∃ t, exec (.getpix 3 1) demo = .next t) ∧ ∃ t, exec .loadfb demo = .next t :=
  ⟨by decide +kernel, ⟨_, rfl⟩, ⟨_, rfl⟩, _, rfl⟩
theorem test_witness_ColoratReturnsThePaletteEntry :
    (3 : Fin 16).val = 0x13 % 16 ∧ (15 : Fin 16).val = 0xFF % 16 ∧ (0x40000013 : Word).toNat / 2 ^ 28 = 4 := by decide
theorem test_witness_LoadpalReplacesTheWholeTable : (0x5FFFFFFF : Word).toNat / 2 ^ 28 = 5 := by decide
theorem test_witness_UploadpalCopiesThePalette : (0x7FFFFFFF : Word).toNat / 2 ^ 28 = 7 := by decide
theorem test_witness_UploadfbCopiesRows :
    demo.fbtex.length = demo.cfg.height ∧ 0 + 2 ≤ demo.cfg.height ∧ 2 + 0 ≤ demo.cfg.height ∧
    1 < demo.cfg.width / 2 ∧ ¬(1 ≤ 0 ∧ 0 < 1 + 1) := by decide +kernel
theorem test_witness_UploadAllShowsTheFramebuffer :
    demo.fbtex.length = demo.cfg.height ∧ 3 < demo.cfg.width ∧ 1 < demo.cfg.height := by decide +kernel
theorem test_witness_DecodePresentsTheDecodedFrame :
    7 < demo.surfW ∧ 3 < demo.surfH ∧ Covered demo.vp 7 3 ∧ Covered demo.vp 0 0 := by decide +kernel
/-- The border clause at DW3; the picture clause at the last pixel of P2's frame. -/
theorem test_witness_DecodePixelIsTheWholeFunction :
    (∃ u v u' : ℚ, u = (((0 : ℕ) : ℚ) + 1 / 2 - warped.vp.x) / warped.vp.w ∧
      v = (((0 : ℕ) : ℚ) + 1 / 2 - warped.vp.y) / warped.vp.h ∧
      u' = (u - 1 / 2) * (1 + (1 / 2 - v) ^ 2 * warped.cfg.kWarpX * ((warped.warp.toNat : ℚ) / 256)) + 1 / 2 ∧
      u' < 0) ∧
    ∃ u v u' v' a : ℚ, u = (((7 : ℕ) : ℚ) + 1 / 2 - demo.vp.x) / demo.vp.w ∧
      v = (((3 : ℕ) : ℚ) + 1 / 2 - demo.vp.y) / demo.vp.h ∧
      u' = (u - 1 / 2) * (1 + (1 / 2 - v) ^ 2 * demo.cfg.kWarpX * ((demo.warp.toNat : ℚ) / 256)) + 1 / 2 ∧
      v' = (v - 1 / 2) * (1 + (1 / 2 - u) ^ 2 * demo.cfg.kWarpY * ((demo.warp.toNat : ℚ) / 256)) + 1 / 2 ∧
      a = demo.cfg.kScan * ((demo.scan.toNat : ℚ) / 256) * scanWave demo.cfg 3 ∧
      (0 ≤ u' ∧ u' ≤ 1 ∧ 0 ≤ v' ∧ v' ≤ 1) ∧
      3 = min ⌊u' * (demo.cfg.width : ℚ)⌋.toNat (demo.cfg.width - 1) ∧
      1 = min ⌊v' * (demo.cfg.height : ℚ)⌋.toNat (demo.cfg.height - 1) ∧
      (7 : Fin 16).val = (if 3 % 2 = 0 then (demo.texel 1 (3 / 2)).toNat / 16 else (demo.texel 1 (3 / 2)).toNat % 16) :=
  ⟨⟨_, _, _, rfl, rfl, rfl, by decide +kernel⟩, _, _, _, _, _, rfl, rfl, rfl, rfl, rfl, by decide +kernel,
    by decide +kernel, by decide +kernel, by decide +kernel⟩
theorem test_witness_FilterOffIsAPureLookup :
    demo.warp = 0 ∧ demo.scan = 0 ∧ Covered demo.vp 7 3 ∧
    ((3 : ℕ) : ℤ) = ⌊normU demo.vp 7 * (demo.cfg.width : ℚ)⌋ ∧
    ((1 : ℕ) : ℤ) = ⌊normV demo.vp 3 * (demo.cfg.height : ℚ)⌋ := by decide +kernel
theorem test_witness_IntegerScaleFillsSquareBlocks :
    demo.cfg.policy = .integer ∧ 1 ≤ 2 ∧ 2 = min (demo.surfW / demo.cfg.width) (demo.surfH / demo.cfg.height) ∧
    demo.vp = viewport demo.cfg demo.surfW demo.surfH ∧ 3 < demo.cfg.width ∧ 1 < demo.cfg.height ∧
    demo.warp = 0 ∧ demo.scan = 0 ∧
    ((demo.surfW - 2 * demo.cfg.width) / 2 + 2 * 3 ≤ 7 ∧ 7 < (demo.surfW - 2 * demo.cfg.width) / 2 + 2 * 3 + 2) ∧
    ((demo.surfH - 2 * demo.cfg.height) / 2 + 2 * 1 ≤ 3 ∧ 3 < (demo.surfH - 2 * demo.cfg.height) / 2 + 2 * 1 + 2) := by
  decide +kernel
theorem test_witness_WarpPushesAwayFromTheCentre :
    (0 : ℚ) ≤ 3 / 10 ∧ (0 : ℚ) ≤ 1 ∧ (0 : ℚ) ≤ 1 ∧ (1 : ℚ) ≤ 1 ∧ warpCoord (3 / 10) 1 0 1 < 0 := by decide +kernel
theorem test_witness_NearestCellContainsTheCoordinate :
    1 ≤ 4 ∧ (0 : ℚ) ≤ 1 ∧ (1 : ℚ) ≤ 1 ∧ (1 / 4 : ℚ) < 1 ∧ cellOf 4 (1 / 4) = 1 ∧ cellOf 4 1 = 3 := by decide +kernel
theorem test_witness_DarkeningFractionIsBounded :
    (256 : BitVec 9).toNat ≤ 256 ∧ darkening Config.t1 256 1 = 1 / 2 ∧ 0 < Config.t1.wave.length ∧
    1 < Config.t1.wave.length ∧ scanWave Config.t1 1 = 1 := by decide +kernel
theorem test_witness_DarkenedColourIsNearestAndNeverBrighter :
    (0 : ℚ) ≤ 1 ∧ (1 : ℚ) ≤ 1 ∧ darkenChannel 255 1 = 0 ∧ darkenChannel 255 0 = 255 := by decide +kernel
theorem test_witness_DecodeSeesOnlyItsInputs :
    SameDecoderInputs demo (demo.setFb []) ∧ (demo.setFb []).fb ≠ demo.fb ∧ (∃ t, exec .decode demo = .next t) ∧
    ∃ t, exec .decode (demo.setFb []) = .next t :=
  ⟨⟨rfl, rfl, rfl, rfl, rfl, rfl, rfl, rfl⟩, by decide, ⟨_, rfl⟩, _, rfl⟩
/-- Another machine with the same host-written values and other stores. -/
def otherDemo : State := (((demo.setFb []).setFbtex [[], []]).setPal (Vector.replicate 16 Colour.black)).setDraws 7
theorem test_witness_DefinedFrameHidesUnspecifiedContents :
    (demo.fbtex.length = demo.cfg.height ∧ otherDemo.fbtex.length = otherDemo.cfg.height) ∧
    (otherDemo.cfg = demo.cfg ∧ otherDemo.cpuMem = demo.cpuMem ∧ otherDemo.palstage = demo.palstage) ∧
    (otherDemo.vp = demo.vp ∧ otherDemo.surfW = demo.surfW ∧ otherDemo.surfH = demo.surfH) ∧
    (otherDemo.warp = demo.warp ∧ otherDemo.scan = demo.scan) ∧
    (∃ t, execAll (.loadpal :: frameCommands demo.cfg) demo = .next t) ∧
    ∃ t, execAll (.loadpal :: frameCommands otherDemo.cfg) otherDemo = .next t :=
  ⟨⟨by decide +kernel, by decide +kernel⟩, ⟨rfl, rfl, rfl⟩, ⟨rfl, rfl, rfl⟩, ⟨rfl, rfl⟩, ⟨_, rfl⟩, _, rfl⟩
theorem test_witness_VportLatchesSizeAndRectangle :
    (8 = demo.surfW ∧ 4 = demo.surfH) ∧ ¬(8 = demo.surfW ∧ 5 = demo.surfH) ∧ (0 = 0 ∨ 480 = 0) ∧
    ∃ k : ℚ, k = (if demo.cfg.policy = .integer
      then max 1 ((⌊min (((8 : ℕ) : ℚ) / demo.cfg.width) (((4 : ℕ) : ℚ) / demo.cfg.height)⌋ : ℤ) : ℚ)
      else min (((8 : ℕ) : ℚ) / demo.cfg.width) (((4 : ℕ) : ℚ) / demo.cfg.height)) :=
  ⟨by decide +kernel, by decide +kernel, by decide, _, rfl⟩
theorem test_witness_ContinuousViewportIsTheLargestThatFits :
    t2c.policy = .continuous ∧ 1 ≤ 1 ∧ (∃ r, r = viewport t2c 1 1) ∧
    (1 : ℚ) * (t2c.height : ℚ) = (1 / 2) * (t2c.width : ℚ) ∧ (1 : ℚ) ≤ ((1 : ℕ) : ℚ) ∧
    (1 / 2 : ℚ) ≤ ((1 : ℕ) : ℚ) := ⟨rfl, le_rfl, ⟨_, rfl⟩, by decide +kernel⟩
theorem test_witness_IntegerViewportHasANaturalScale :
    Config.t2.policy = .integer ∧ 1 ≤ 1 ∧ 1 = max 1 (min (1 / Config.t2.width) (1 / Config.t2.height)) := by
  decide +kernel
theorem test_witness_DegenerateWindowCoversNothing :
    (0 = 0 ∨ 480 = 0) ∧ ((⟨0, 0, 0, 5⟩ : Rect).w = 0 ∨ (⟨0, 0, 0, 5⟩ : Rect).h = 0) := by decide +kernel
theorem test_witness_RegisterReadsFollowTheMap :
    (demoWith (.regRead 0x1F)).pending = .regRead 0x1F :: [] ∧ 0x1F = 0x10 + (15 : Fin 16).val ∧
    0x10 = 0x10 + (0 : Fin 16).val ∧ (5 ≤ 0x0F ∧ 0x0F ≤ 0x0F) ∧ (5 ≤ 5 ∧ 5 ≤ 0x0F) ∧ 0x20 ≤ 0x20 :=
  ⟨rfl, by decide⟩
theorem test_witness_RegisterWritesFollowTheMap :
    (demoWith (.regWrite 0x10 5)).pending = .regWrite 0x10 5 :: [] ∧
    (demoWith (.regWrite 3 257)).pending = .regWrite 3 257 :: [] ∧
    (demoWith (.regWrite 4 256)).pending = .regWrite 4 256 :: [] ∧
    (demoWith (.regWrite 0x20 1)).pending = .regWrite 0x20 1 :: [] ∧ 0x10 = 0x10 + (0 : Fin 16).val ∧
    (1 : Fin 16) ≠ 0 := ⟨rfl, rfl, rfl, rfl, by decide⟩
theorem test_witness_ReservedRegistersReadZeroAndIgnoreWrites :
    ((5 ≤ 5 ∧ 5 ≤ 0x0F) ∨ 0x20 ≤ 5) ∧ ((5 ≤ 0x20 ∧ 0x20 ≤ 0x0F) ∨ 0x20 ≤ 0x20) ∧
    (demoWith (.regRead 5)).pending = .regRead 5 :: [] ∧
    (demoWith (.regWrite 0x20 1)).pending = .regWrite 0x20 1 :: [] := ⟨by decide, by decide, rfl, rfl⟩
theorem test_witness_SetpalInstallsThePalette :
    ∃ (s : State) (cols : Vector Word 16), s.pending = assemble s.cfg (.setpal cols) ++ [.regRead 1] :=
  ⟨demo.setPending (setPalette (Vector.replicate 16 0x12345678) ++ [.regRead 1]), _, rfl⟩

theorem test_witness_ResetValues :
    (demoWith .blockReset).pending = .blockReset :: [] ∧ ∃ t, step (demoWith .blockReset) = .next t := ⟨rfl, _, rfl⟩
theorem demo_inv : demo.Inv :=
  ⟨by decide +kernel, by decide +kernel, by decide +kernel, by decide +kernel, trivial⟩
theorem test_witness_EveryStepKeepsTheInvariant :
    (demoWith (.regWrite 0 0x80000000)).Inv ∧ ∃ t, step (demoWith (.regWrite 0 0x80000000)) = .next t :=
  ⟨demo_inv, _, rfl⟩
theorem test_witness_ConfigurationNeverChanges : ∃ t, step (demoWith .blockReset) = .next t := ⟨_, rfl⟩
/-- The fault of the second clause: the first address that does not exist. -/
theorem test_witness_CommandsNeverFaultOrRefuse :
    step (demoWith (.cpu .write [(65536, 1)])) = .fault (.noSuchCpuAddress 65536) ∧
    ∃ t, step (demoWith (.cpu .write [(65535, 1)])) = .next t := ⟨rfl, _, rfl⟩
theorem test_witness_CommandsLeaveHostAndCpuAlone : ∃ t, exec .decode demo = .next t := ⟨_, rfl⟩
theorem test_witness_EachStoreHasItsOwnWriter_framebuffer :
    (∃ t, exec (.setpix 0 0 7) demo = .next t ∧ t.fb ≠ demo.fb) ∧
    (∃ t, exec .loadfb demo = .next t ∧ t.fb ≠ demo.fb) ∧
    (∃ t, exec (.uploadfb 1 1) demo = .next t ∧ t.fbtex ≠ demo.fbtex) ∧
    ∃ t, exec (.getpix 3 1) demo = .next t ∧ t.result ≠ demo.result :=
  ⟨⟨_, rfl, by decide +kernel⟩, ⟨_, rfl, by decide +kernel⟩, ⟨_, rfl, by decide +kernel⟩, _, rfl, by decide +kernel⟩
theorem test_witness_EachStoreHasItsOwnWriter_palette :
    (∃ t, exec .loadpal (demo.writeReg 0x10 5) = .next t ∧ t.pal ≠ demo.pal) ∧
    (∃ t, exec .uploadpal (demo.setPal (Vector.replicate 16 Colour.black)) = .next t ∧ t.paltex ≠ demo.paltex) ∧
    ∃ t, step ((demo.writeReg 0x10 5).setPending [.regWrite 0 0x50000000]) = .next t ∧ t.pal ≠ demo.pal :=
  ⟨⟨_, rfl, by decide +kernel⟩, ⟨_, rfl, by decide +kernel⟩, _, rfl, by decide +kernel⟩
theorem test_witness_EachStoreHasItsOwnWriter_display :
    (∃ t, exec (.vport 0 0) demo = .next t ∧ t.vp ≠ demo.vp ∧ t.surf ≠ demo.surf) ∧
    ∃ t, exec .decode demo = .next t ∧ t.presented ≠ demo.presented :=
  ⟨⟨_, rfl, by decide +kernel, by decide +kernel⟩, _, rfl, List.cons_ne_nil _ _⟩
theorem test_witness_TheTwoResetsAreIndependent :
    (∃ t, step (demoWith .blockReset) = .next t ∧ (demoWith .blockReset).pending = .blockReset :: []) ∧
    ∃ t, step (demoWith (.cpu .reset [(0x8000, 0)])) = .next t ∧
      (demoWith (.cpu .reset [(0x8000, 0)])).pending = .cpu .reset [(0x8000, 0)] :: [] :=
  ⟨⟨_, rfl, rfl⟩, _, rfl, rfl⟩
/-- A call that lists one address twice and the last address there is. -/
def twice : List Host.Cell := [(0x8000, 1), (65535, 7), (0x8000, 2)]
theorem test_witness_TheTwoResetsAreIndependent_calls :
    (demoWith (.cpu (.run 3) twice)).pending = .cpu (.run 3) twice :: [] ∧
    (demoWith (.cpu (.run 3) twice)).loop ≠ .paused ∧ (pausedWith (.cpu .write twice)).loop = .paused ∧
    (∀ k, CpuCall.write ≠ .run k) ∧ demo.cpuMem.wf = true ∧ (∀ c ∈ twice, c.1 < 2 ^ demo.cfg.addrBits) ∧
    twice = [(0x8000, 1), (65535, 7)] ++ (0x8000, 2) :: [] ∧ twice = [(0x8000, 1)] ++ (65535, 7) :: [(0x8000, 2)] ∧
    (∀ c ∈ [((0x8000 : Nat), (2 : Byte))], c.1 ≠ 65535) ∧ (∀ c ∈ twice, c.1 ≠ 0) :=
  ⟨rfl, by decide, rfl, by simp, by decide +kernel, by decide +kernel, rfl, rfl, by decide, by decide⟩
theorem test_witness_MonitorSelectionFollowsTheRule :
    (0 : ℚ) ≤ (⟨⟨0, 0, 1920, 1080⟩, none⟩ : Monitor).rect.w ∧ (0 : ℚ) ≤ (⟨⟨0, 0, 1920, 1080⟩, none⟩ : Monitor).rect.h ∧
    selectMonitor 1920 500 twoMonitors = some 1 ∧ selectMonitor 1920 1100 twoMonitors = some 0 := by decide +kernel
theorem test_witness_RefreshRateFallsBack :
    (none = (none : Option Nat)) ∧
    (∃ j m, some 1 = some j ∧ twoMonitors[j]? = some m ∧ (m.rate = none ∨ m.rate = some 0)) ∧
    1 ≤ 60 ∧ ∃ j m, some 0 = some j ∧ twoMonitors[j]? = some m ∧ m.rate = some 60 :=
  ⟨rfl, ⟨1, _, rfl, rfl, Or.inl rfl⟩, by decide, 0, _, rfl, rfl, rfl⟩
theorem test_witness_BudgetIsTheTruncatedQuotient :
    1 ≤ 1 ∧ Config.t1.targetClockHz < 20000000 ∧ Config.t1.targetClockHz = 10000000 := by decide +kernel
/-- An iteration that uploads every row of T2 and the palette. -/
def fullIteration : Iteration := ⟨twoMonitors, 960, 540, [(0x8000, 0xFF)], [⟨0, 2⟩], true⟩
theorem test_witness_IterationIssuesTheSixSteps :
    (demoWith (.iterate fullIteration)).pending = .iterate fullIteration :: [] ∧
    (demoWith (.iterate fullIteration)).loop = .running ∧
    ((demoWith (.iterate fullIteration)).setLoop .paused).loop ≠ .running := ⟨rfl, rfl, by decide⟩
theorem test_witness_IterationIssuesTheSixSteps_events :
    (demoWith (.visibility false)).pending = .visibility false :: [] ∧ demo.loop ≠ .terminated ∧
    (pausedWith (.visibility true)).pending = .visibility true :: [] ∧ LoopMode.paused ≠ .terminated ∧
    (demoWith (.resize 16383 0)).pending = .resize 16383 0 :: [] ∧
    ((demoWith (.resize 16383 0)).setLoop .terminated).loop = .terminated ∧
    (pausedWith (.cpu (.run 9) [])).pending = .cpu (.run 9) [] :: [] ∧
    (pausedWith (.cpu (.run 9) [])).loop = .paused := ⟨rfl, by decide, rfl, by decide, rfl, rfl, rfl, rfl⟩
theorem test_witness_IterationIssuesTheSixSteps_paused :
    (pausedWith (.regWrite 0 0x50000000)).loop = .paused ∧
    (∀ rest, (pausedWith (.regWrite 0 0x50000000)).pending ≠ .blockReset :: rest) ∧
    ∃ t, step (pausedWith (.regWrite 0 0x50000000)) = .next t :=
  ⟨rfl, (fun _ h => by cases h), _, rfl⟩
/-- 45_presentation_loop R182: a paused host issues no DECODE and does not run the CPU; its palette commands and its
writes into CPU memory happen. -/
theorem test_paused_host_skips_frame_work :
    step (pausedWith (.regWrite 0 0x80000000)) = .next (demo.setLoop .paused) ∧
    step (pausedWith (.cpu (.run 9) [(0x8000, 0xFF)])) = .next (demo.setLoop .paused) ∧
    fieldOf (fun s => s.pal[3]) (step ((pausedWith (.regWrite 0 0x50000000)).writeReg 0x13 0x12345678)) =
      some ⟨0x12, 0x34, 0x56, 0x78⟩ ∧
    fieldOf (fun s => s.cpuMem.read 0x8000) (step (pausedWith (.cpu .write [(0x8000, 0xFF)]))) = some 0xFF :=
  ⟨rfl, rfl, by decide +kernel, by decide +kernel⟩
/-- 45_presentation_loop R182, 60_exceptions R207: back to Running on a visibility event; EN13's VPORT on a resize. -/
theorem test_visibility_and_resize :
    fieldOf State.loop (step (pausedWith (.visibility true))) = some .running ∧
    fieldOf State.loop (step (demoWith (.visibility false))) = some .paused ∧
    fieldOf State.pending (step (pausedWith (.resize 800 600))) = some [.regWrite 0 0x90960320] := by decide +kernel
theorem test_witness_CloseEndsTheLoop : (demoWith .close).pending = .close :: [] := rfl
theorem test_witness_UploadingTheChangedRowsSuffices :
    demo.fbtex.length = demo.cfg.height ∧ fullIteration.CoversChanges demo ∧
    ∀ u ∈ fullIteration.uploads, u.y0.toNat + u.n.toNat ≤ demo.cfg.height :=
  ⟨by decide +kernel,
    ⟨fun r h _ => ⟨⟨0, 2⟩, by decide, Nat.zero_le r, by rw [show demo.cfg.height = 2 from rfl] at h; simpa using h⟩,
      fun h => by cases h⟩,
    by decide +kernel⟩
theorem test_witness_FrameShowsCpuMemory :
    demo.fbtex.length = demo.cfg.height ∧ 3 < demo.cfg.fbBytes ∧ Covered demo.vp 7 3 := by decide +kernel
theorem test_witness_FrameEndToEndWithTheFilterOff :
    demo.fbtex.length = demo.cfg.height ∧ demo.warp = 0 ∧ demo.scan = 0 ∧ 7 < demo.surfW ∧ 3 < demo.surfH ∧
    Covered demo.vp 7 3 ∧ ((3 : ℕ) : ℤ) = ⌊normU demo.vp 7 * (demo.cfg.width : ℚ)⌋ ∧
    ((1 : ℕ) : ℤ) = ⌊normV demo.vp 3 * (demo.cfg.height : ℚ)⌋ ∧
    (7 : Fin 16).val = (unpack (demo.cpuMem.read (demo.cfg.fbBase + (1 * demo.cfg.width + 3) / 2)) 3).toNat := by
  decide +kernel

end Sys2Proof.Tests
end

section
/-! PROOFS. The configuration is constant for the life of the block (00_scope R6): one fact per operation a step
is made of, in the order of the model's definitions, and the statement over all steps (O48). -/

namespace Sys2Proof.Machine

/-! ### The operations on the state -/

@[simp] theorem State.reject_cfg (s : State) : s.reject.cfg = s.cfg := by
  rw [reject_eq, State.setStatus_cfg]

@[simp] theorem State.rejectWord_cfg (s : State) : s.rejectWord.cfg = s.cfg := by
  rw [rejectWord_eq, State.setStatus_cfg]

@[simp] theorem State.blockReset_cfg (s : State) : s.blockReset.cfg = s.cfg := rfl

@[simp] theorem State.writeReg_cfg (s : State) (n : Nat) (v : Word) : (s.writeReg n v).cfg = s.cfg := by
  obtain h | h | h | ⟨p, h⟩ := writeReg_cases s n v <;> simp [h]

@[simp] theorem State.resizeSurf_cfg (s : State) (W H : Nat) : (s.resizeSurf W H).cfg = s.cfg := by
  obtain ⟨-, h⟩ | ⟨-, h⟩ := resizeSurf_cases s W H <;> simp [h]

/-! ### The commands -/

/-- A command that may be rejected keeps the configuration when both its outcomes do. -/
theorem cfg_of_accepted_or_rejected {c : Prop} [Decidable c] {a b s : State} (ha : a.cfg = s.cfg)
    (hb : b.cfg = s.cfg) : (if c then a else b).cfg = s.cfg := by
  split
  · exact ha
  · exact hb

/-- Every command answers a next state, and one with the same configuration. -/
theorem exec_next_cfg (i : Instr) (s : State) : ∃ t, exec i s = .next t ∧ t.cfg = s.cfg := by
  cases i with
  | setpix x y c8 => exact ⟨_, rfl, cfg_of_accepted_or_rejected (s.setFb_cfg _) s.reject_cfg⟩
  | getpix x y => exact ⟨_, rfl, cfg_of_accepted_or_rejected (s.setResult_cfg _) s.reject_cfg⟩
  | loadfb => exact ⟨_, rfl, s.setFb_cfg _⟩
  | colorat idx8 => exact ⟨_, rfl, s.setResult_cfg _⟩
  | loadpal => exact ⟨_, rfl, s.setPal_cfg _⟩
  | uploadfb y0 n => exact ⟨_, rfl, cfg_of_accepted_or_rejected s.reject_cfg (s.setFbtex_cfg _)⟩
  | uploadpal => exact ⟨_, rfl, s.setPaltex_cfg _⟩
  | decode => exact ⟨_, rfl, by simp⟩
  | vport W H => exact ⟨_, rfl, by simp⟩

theorem exec_keeps_cfg {i : Instr} {s t : State} (h : exec i s = .next t) : t.cfg = s.cfg := by
  obtain ⟨u, hu, hcfg⟩ := exec_next_cfg i s
  rwa [← Host.Outcome.next.inj (hu.symm.trans h)]

/-! ### The events -/

theorem runCommand_keeps_cfg {w : Word} {s t : State} (h : runCommand w s = .next t) : t.cfg = s.cfg := by
  cases hd : decodeWord w with
  | ok i => exact exec_keeps_cfg (runCommand_ok hd s ▸ h)
  | error e =>
    rw [runCommand_error hd, Host.Outcome.next.injEq] at h
    rw [← h, State.rejectWord_cfg]

theorem busWrite_keeps_cfg {n : Nat} {v : Word} {s t : State} (h : busWrite n v s = .next t) : t.cfg = s.cfg := by
  by_cases hn : n = 0
  · subst hn
    exact runCommand_keeps_cfg h
  · rw [busWrite_pos hn, Host.Outcome.next.injEq] at h
    rw [← h, State.writeReg_cfg]

theorem cpuCall_keeps_cfg {ws : List Host.Cell} {s t : State} (h : cpuCall ws s = .next t) : t.cfg = s.cfg := by
  obtain ⟨-, hs⟩ | ⟨c, -, -, hs⟩ := cpuCall_cases ws s
  · rw [← Host.Outcome.next.inj (hs.symm.trans h), State.setCpuMem_cfg]
  · cases hs.symm.trans h

@[simp] theorem onResize_cfg (W H : BitVec 14) (s : State) : (onResize W H s).cfg = s.cfg := by
  obtain ⟨-, h⟩ | ⟨-, h⟩ := onResize_cases W H s <;> simp [h]

@[simp] theorem onVisibility_cfg (visible : Bool) (s : State) : (onVisibility visible s).cfg = s.cfg := by
  obtain h | ⟨-, h⟩ | ⟨-, h⟩ := onVisibility_cases visible s <;> simp [h]

@[simp] theorem onIterate_cfg (it : Iteration) (s : State) : (onIterate it s).cfg = s.cfg := by
  obtain ⟨-, h⟩ | ⟨-, h⟩ := onIterate_cases it s <;> simp [h]

@[simp] theorem onTermination_cfg (s : State) : (onTermination s).cfg = s.cfg := by
  rw [onTermination, State.setPending_cfg, State.setLoop_cfg]

theorem handle_keeps_cfg {e : Event} {s t : State} (h : handle e s = .next t) : t.cfg = s.cfg := by
  cases e with
  | regWrite n v => exact busWrite_keeps_cfg h
  | regRead n => rw [← Host.Outcome.next.inj h, State.setReadData_cfg]
  | cpu call writes => exact cpuCall_keeps_cfg h
  | blockReset => rw [← Host.Outcome.next.inj h, State.blockReset_cfg]
  | resize W H => rw [← Host.Outcome.next.inj h, onResize_cfg]
  | visibility visible => rw [← Host.Outcome.next.inj h, onVisibility_cfg]
  | iterate it => rw [← Host.Outcome.next.inj h, onIterate_cfg]
  | close => rw [← Host.Outcome.next.inj h, onTermination_cfg]
  | startupFailure => rw [← Host.Outcome.next.inj h, onTermination_cfg]

/-! ### The step -/

theorem step_keeps_cfg {s t : State} (h : step s = .next t) : t.cfg = s.cfg := by
  obtain ⟨-, rfl⟩ | ⟨e, rest, -, ⟨-, rfl⟩ | ⟨-, handled⟩⟩ := step_cases h
  · rfl
  · exact s.setPending_cfg rest
  · rw [handle_keeps_cfg handled, State.setPending_cfg]

/-- Settles O48: a step idles, skips an event or handles one, and no event's meaning touches the configuration. -/
theorem configurationNeverChanges : Obligations.ConfigurationNeverChanges :=
  fun _ _ => step_keeps_cfg

end Sys2Proof.Machine
end

section
/-! PROOFS. The colour word (10_state R34): each conversion as quotients and remainders, and the two laws (O19). -/

namespace Sys2Proof.Machine

theorem Colour.toWord_toNat (c : Colour) :
    c.toWord.toNat = c.r.toNat * 2 ^ 24 + c.g.toNat * 2 ^ 16 + c.b.toNat * 2 ^ 8 + c.a.toNat := by
  rw [Colour.toWord, toNat_append_mul, toNat_append_mul, toNat_append_mul]
  omega

@[simp] theorem Colour.ofWord_r_toNat (w : Word) : (Colour.ofWord w).r.toNat = w.toNat / 2 ^ 24 % 2 ^ 8 :=
  toNat_field w 24 8

@[simp] theorem Colour.ofWord_g_toNat (w : Word) : (Colour.ofWord w).g.toNat = w.toNat / 2 ^ 16 % 2 ^ 8 :=
  toNat_field w 16 8

@[simp] theorem Colour.ofWord_b_toNat (w : Word) : (Colour.ofWord w).b.toNat = w.toNat / 2 ^ 8 % 2 ^ 8 :=
  toNat_field w 8 8

@[simp] theorem Colour.ofWord_a_toNat (w : Word) : (Colour.ofWord w).a.toNat = w.toNat % 2 ^ 8 := by
  rw [Colour.ofWord, toNat_field, pow_zero, Nat.div_one]

/-- A colour is its four channels as numbers. -/
theorem Colour.ext_toNat {c d : Colour} (hr : c.r.toNat = d.r.toNat) (hg : c.g.toNat = d.g.toNat)
    (hb : c.b.toNat = d.b.toNat) (ha : c.a.toNat = d.a.toNat) : c = d := by
  cases c
  cases d
  rw [Colour.mk.injEq]
  exact ⟨BitVec.eq_of_toNat_eq hr, BitVec.eq_of_toNat_eq hg, BitVec.eq_of_toNat_eq hb, BitVec.eq_of_toNat_eq ha⟩

@[simp] theorem Colour.ofWord_toWord (c : Colour) : Colour.ofWord c.toWord = c := by
  have hr := c.r.isLt
  have hg := c.g.isLt
  have hb := c.b.isLt
  have ha := c.a.isLt
  apply Colour.ext_toNat
  · rw [ofWord_r_toNat, toWord_toNat]; omega
  · rw [ofWord_g_toNat, toWord_toNat]; omega
  · rw [ofWord_b_toNat, toWord_toNat]; omega
  · rw [ofWord_a_toNat, toWord_toNat]; omega

@[simp] theorem Colour.toWord_ofWord (w : Word) : (Colour.ofWord w).toWord = w := by
  apply BitVec.eq_of_toNat_eq
  have hw := w.isLt
  rw [toWord_toNat, ofWord_r_toNat, ofWord_g_toNat, ofWord_b_toNat, ofWord_a_toNat]
  omega

/-- Settles O19: on numbers, the conversions compose and split base 256. -/
theorem colourWordLayout : Obligations.ColourWordLayout :=
  ⟨Colour.toWord_toNat, Colour.ofWord_toWord, Colour.toWord_ofWord⟩

end Sys2Proof.Machine
end

section
/-! PROOFS. The register port (10_state R27 to R35): what an access by number does, as a step of the machine
(O41, O42, O43), and what a write of a command's word does (O6). -/

namespace Sys2Proof.Machine

/-! ### Accesses of the port -/

/-- The register numbers of 10_state R35. -/
abbrev ReservedRegister (n : Nat) : Prop := (5 ≤ n ∧ n ≤ 0x0F) ∨ 0x20 ≤ n

theorem readReg_reserved {n : Nat} (h : ReservedRegister n) (s : State) : s.readReg n = 0 := by
  unfold State.readReg
  split
  case h_6 => exact dif_neg (by omega)
  all_goals omega

theorem writeReg_reserved {n : Nat} (h : ReservedRegister n) (v : Word) (s : State) : s.writeReg n v = s := by
  unfold State.writeReg
  split
  case h_6 => exact dif_neg (by omega)
  all_goals omega

/-- A read of a register hands the host its value and changes nothing else, in every mode of the host. -/
theorem step_regRead {s : State} {n : Nat} {rest : List Event} (h : s.pending = .regRead n :: rest) :
    step s = .next ((s.setPending rest).setReadData (s.readReg n)) :=
  step_event s _ rest h (heldBack_of_not_frame rfl s.loop)

/-- A write to any register but CMD is `writeReg` and nothing else, in every mode of the host. -/
theorem step_regWrite {s : State} {n : Nat} {v : Word} {rest : List Event} (hn : n ≠ 0)
    (h : s.pending = .regWrite n v :: rest) : step s = .next ((s.setPending rest).writeReg n v) := by
  rw [step_event s _ rest h (heldBack_of_not_frame (isFrameWork_register hn v) s.loop)]
  exact busWrite_pos hn v _

/-- Settles O41: the step is the read of one register, and each clause is what `readReg` gives there. -/
theorem registerReadsFollowTheMap : Obligations.RegisterReadsFollowTheMap := by
  intro s n rest hp
  refine ⟨s.readReg n, step_regRead hp, ?cmd, ?status, ?result, ?warp, ?scan, ?palstage, ?reserved⟩
  case cmd => rintro rfl; rfl
  case status => rintro rfl; exact BitVec.toNat_setWidth_of_le (by decide)
  case result => rintro rfl; rfl
  case warp => rintro rfl; exact BitVec.toNat_setWidth_of_le (by decide)
  case scan => rintro rfl; exact BitVec.toNat_setWidth_of_le (by decide)
  case palstage => rintro k rfl; exact readReg_palstage s k
  case reserved => exact fun h => readReg_reserved h s

/-- Settles O42: the step is `writeReg`, and each clause is what `writeReg` does at that number. -/
theorem registerWritesFollowTheMap : Obligations.RegisterWritesFollowTheMap := by
  intro s n v rest hp
  refine ⟨?ignored, ?warp, ?scan, ?palstage⟩
  case ignored =>
    rintro (rfl | rfl | h)
    · exact step_regWrite (by decide) hp
    · exact step_regWrite (by decide) hp
    · rw [step_regWrite (by omega) hp, writeReg_reserved h]
  case warp =>
    rintro rfl
    exact ⟨saturate v, saturate_toNat v, step_regWrite (by decide) hp⟩
  case scan =>
    rintro rfl
    exact ⟨saturate v, saturate_toNat v, step_regWrite (by decide) hp⟩
  case palstage =>
    rintro k rfl
    refine ⟨s.palstage.set k.val v, ?_, Vector.getElem_set_self k.isLt, fun j hj => ?_⟩
    · rw [step_regWrite (by omega) hp, writeReg_palstage, State.setPending_palstage]
    · exact Vector.getElem_set_ne k.isLt j.isLt fun h => hj (Fin.ext h.symm)

/-- Settles O43: at a reserved number `readReg` is 0 and `writeReg` changes nothing. -/
theorem reservedRegistersReadZeroAndIgnoreWrites : Obligations.ReservedRegistersReadZeroAndIgnoreWrites := by
  intro s n v rest h
  constructor
  · intro hp
    rw [step_regRead hp, readReg_reserved h]
  · intro hp
    rw [step_regWrite (by omega) hp, writeReg_reserved h]

/-! ### A command's word at CMD -/

/-- The decoder reads each operand from its own field, so it fits. -/
theorem decodeWord_wellFormed {w : Word} {i : Instr} (h : decodeWord w = .ok i) : i.WellFormed := by
  unfold decodeWord at h
  split at h <;> cases h
  case h_1 => exact ⟨(xField w).isLt, (yField w).isLt, (c8Field w).isLt⟩
  case h_2 => exact ⟨(xField w).isLt, (yField w).isLt⟩
  case h_4 => exact (idx8Field w).isLt
  case h_6 => exact ⟨(y0Field w).isLt, (nField w).isLt⟩
  case h_9 => exact ⟨(widthField w).isLt, (heightField w).isLt⟩
  all_goals trivial

/-- A command's word is held back exactly when the host is paused and the command is one of the frame's. -/
theorem heldBack_command_iff {w : Word} {i : Instr} (h : decodeWord w = .ok i) (m : LoopMode) :
    heldBack m (.regWrite 0 w) = true ↔ m = .paused ∧ FrameCommand i := by
  rw [heldBack_iff, isFrameWork_command h, isFrameCommand_iff]

/-- Settles O6: a word that is not held back runs its command on the state without it; one held back is dropped. -/
theorem stepRunsTheDecodedCommand : Obligations.StepRunsTheDecodedCommand := by
  intro s w rest i hp hd
  refine ⟨decodeWord_wellFormed hd, fun hrun => ?_, fun hpaused hframe => ?_⟩
  · have hb : heldBack s.loop (.regWrite 0 w) = false := by
      rw [Bool.eq_false_iff, ne_eq, heldBack_command_iff hd]
      exact not_and_or.2 hrun
    rw [step_event s _ rest hp hb]
    exact runCommand_ok hd _
  · exact step_heldBack s _ rest hp ((heldBack_command_iff hd _).2 ⟨hpaused, hframe⟩)

end Sys2Proof.Machine
end

section
/-! PROOFS. Reset (10_state R41, R42): the values it gives (O45) and the invariant, part by part (O46). -/

namespace Sys2Proof.Machine

theorem resetOf_hasResetValues (c : Cfg) (draw : Nat) : (State.resetOf c draw).HasResetValues :=
  ⟨rfl, rfl, rfl, rfl, rfl, rfl, rfl, rfl⟩

/-- The reset input gives the registers and scalars what power-on gives them; it keeps other fields only. -/
theorem blockReset_hasResetValues (s : State) : s.blockReset.HasResetValues :=
  resetOf_hasResetValues s.cfg s.draws

theorem step_blockReset {s : State} {rest : List Event} (h : s.pending = .blockReset :: rest) :
    step s = .next (s.setPending rest).blockReset :=
  step_event s _ rest h (heldBack_of_not_frame rfl s.loop)

/-- Settles O45: both resets are `State.resetOf` on the registers and scalars. -/
theorem resetValues : Obligations.ResetValues := by
  refine ⟨resetOf_hasResetValues _ _, fun s t rest hp hs => ?_⟩
  rw [step_blockReset hp, Host.Outcome.next.injEq] at hs
  exact hs ▸ blockReset_hasResetValues _

theorem resetOf_storesShaped (c : Cfg) (draw : Nat) : (State.resetOf c draw).StoresShaped := by
  refine ⟨?_, ?_, fun row hrow => ?_⟩
  · simp [State.resetOf]
  · simp [State.resetOf]
  · obtain ⟨r, -, rfl⟩ := List.mem_map.1 hrow
    simp [State.resetOf, rowBytes]

theorem resetOf_strengthsLegal (c : Cfg) (draw : Nat) : (State.resetOf c draw).StrengthsLegal :=
  ⟨Nat.zero_le _, Nat.zero_le _⟩

/-- The Mapper's rectangle for a surface of no pixels is the zero rectangle (44_viewport_mapper R174). -/
theorem viewport_zero (c : Cfg) : viewport c 0 0 = ⟨0, 0, 0, 0⟩ := if_pos (Or.inl rfl)

theorem resetOf_surfaceShaped (c : Cfg) (draw : Nat) : (State.resetOf c draw).SurfaceShaped :=
  ⟨⟨Nat.zero_le _, Nat.zero_le _⟩, ⟨rfl, List.forall_mem_nil _⟩, (viewport_zero c).symm⟩

theorem resetOf_cpuMemoryLegal (c : Cfg) (draw : Nat) : (State.resetOf c draw).CpuMemoryLegal :=
  ⟨Memory.wf_nil, List.forall_mem_nil _⟩

theorem resetOf_inv (c : Cfg) (draw : Nat) : (State.resetOf c draw).Inv :=
  ⟨resetOf_storesShaped c draw, resetOf_strengthsLegal c draw, resetOf_surfaceShaped c draw,
    resetOf_cpuMemoryLegal c draw, trivial⟩

/-- Settles O46: the invariant holds after every reset, and power-on is one of them. -/
theorem invariantHoldsAtReset : Obligations.InvariantHoldsAtReset :=
  ⟨resetOf_inv _ _, resetOf_inv⟩

end Sys2Proof.Machine
end

section
/-! PROOFS. Who writes what: the outcomes of a command said once (20_memory R62, 60_exceptions R201), the events
that reach the block's stores at all, and from them the sticky flags (O10) and the writer of each store (O51). -/

namespace Sys2Proof.Machine

/-! ### The outcomes of a command -/

/-- The operands 60_exceptions R201 rejects. -/
def OutOfRange (c : Cfg) (i : Instr) : Prop :=
  match i with
  | .setpix x y _ => ¬(x < c.width ∧ y < c.height)
  | .getpix x y => ¬(x < c.width ∧ y < c.height)
  | .uploadfb y0 n => c.height < y0 + n
  | _ => False

/-- What a command can answer: it is rejected, or it writes its own store. -/
inductive CommandOutcome (s : State) : Instr → State → Prop where
  | rejected (i : Instr) (h : OutOfRange s.cfg i) : CommandOutcome s i s.reject
  | setpix (x y c8 : Nat) (h : x < s.cfg.width ∧ y < s.cfg.height) :
      CommandOutcome s (.setpix x y c8)
        (s.setFb (s.fb.set (pixByte s.cfg x y) (pack (s.fbByte (pixByte s.cfg x y)) x (low4 c8))))
  | getpix (x y : Nat) (h : x < s.cfg.width ∧ y < s.cfg.height) :
      CommandOutcome s (.getpix x y) (s.setResult ((s.pixel x y).setWidth 32))
  | loadfb : CommandOutcome s .loadfb (s.setFb s.window)
  | colorat (idx8 : Nat) : CommandOutcome s (.colorat idx8) (s.setResult (s.pal[paletteIndex idx8]).toWord)
  | loadpal : CommandOutcome s .loadpal (s.setPal s.staged)
  | uploadfb (y0 n : Nat) (h : y0 + n ≤ s.cfg.height) :
      CommandOutcome s (.uploadfb y0 n)
        (s.setFbtex (s.fbtex.mapIdx fun r row => if y0 ≤ r ∧ r < y0 + n then s.fbRow r else row))
  | uploadpal : CommandOutcome s .uploadpal (s.setPaltex s.pal)
  | decode :
      CommandOutcome s .decode
        (((s.setSurf s.decodedFrame).setPresented (s.presented ++ [s.decodedFrame])).setDraws (s.draws + 1))
  | vport (W H : Nat) : CommandOutcome s (.vport W H) ((s.resizeSurf W H).setView W H (viewport s.cfg W H))

/-- Every outcome of `exec` is one of those listed. -/
theorem exec_outcome {i : Instr} {s t : State} (h : exec i s = .next t) : CommandOutcome s i t := by
  cases i <;> cases h
  case setpix x y c8 =>
    split
    case isTrue hin => exact .setpix x y c8 ((inLogical_iff _ _ _).1 hin)
    case isFalse hout => exact .rejected _ fun hin => hout ((inLogical_iff _ _ _).2 hin)
  case getpix x y =>
    split
    case isTrue hin => exact .getpix x y ((inLogical_iff _ _ _).1 hin)
    case isFalse hout => exact .rejected _ fun hin => hout ((inLogical_iff _ _ _).2 hin)
  case uploadfb y0 n =>
    split
    case isTrue hout => exact .rejected _ hout
    case isFalse hin => exact .uploadfb y0 n (Nat.le_of_not_lt hin)
  case loadfb => exact .loadfb
  case colorat idx8 => exact .colorat idx8
  case loadpal => exact .loadpal
  case uploadpal => exact .uploadpal
  case decode => exact .decode
  case vport W H => exact .vport W H

/-! ### The stores that only commands and the reset write -/

/-- The registers and stores of the block that no host access but a command's word writes: all but WARP, SCAN
and PALSTAGE (10_state R22 to R39). -/
structure BlockStores where
  fb : List Byte
  fbtex : List (List Byte)
  pal : Palette
  paltex : Palette
  status : BitVec 2
  result : Word
  vp : Rect
  surfW : Nat
  surfH : Nat
  surf : Frame
  presented : List Frame

/-- What a state holds in those stores. -/
def State.blockStores (s : State) : BlockStores where
  fb := s.fb
  fbtex := s.fbtex
  pal := s.pal
  paltex := s.paltex
  status := s.status
  result := s.result
  vp := s.vp
  surfW := s.surfW
  surfH := s.surfH
  surf := s.surf
  presented := s.presented

theorem setPending_blockStores (s : State) (v : List Event) : (s.setPending v).blockStores = s.blockStores := rfl

theorem writeReg_blockStores (s : State) (n : Nat) (v : Word) : (s.writeReg n v).blockStores = s.blockStores := by
  obtain h | h | h | ⟨p, h⟩ := writeReg_cases s n v <;> exact (congrArg State.blockStores h).trans rfl

/-- VPORT draws a new surface before it latches the size, and touches no other store by that. -/
theorem resizeSurf_blockStores (s : State) (W H : Nat) :
    (s.resizeSurf W H).blockStores = { s.blockStores with surf := (s.resizeSurf W H).surf } := by
  obtain ⟨-, h⟩ | ⟨-, h⟩ := resizeSurf_cases s W H <;> rw [h] <;> rfl

theorem cpuCall_blockStores {ws : List Host.Cell} {s t : State} (h : cpuCall ws s = .next t) :
    t.blockStores = s.blockStores := by
  obtain ⟨-, hs⟩ | ⟨c, -, -, hs⟩ := cpuCall_cases ws s
  · rw [← Host.Outcome.next.inj (hs.symm.trans h)]
    rfl
  · cases hs.symm.trans h

theorem onResize_blockStores (W H : BitVec 14) (s : State) : (onResize W H s).blockStores = s.blockStores := by
  obtain ⟨-, h⟩ | ⟨-, h⟩ := onResize_cases W H s <;> exact (congrArg State.blockStores h).trans rfl

theorem onVisibility_blockStores (visible : Bool) (s : State) :
    (onVisibility visible s).blockStores = s.blockStores := by
  obtain h | ⟨-, h⟩ | ⟨-, h⟩ := onVisibility_cases visible s <;> exact (congrArg State.blockStores h).trans rfl

theorem onIterate_blockStores (it : Iteration) (s : State) : (onIterate it s).blockStores = s.blockStores := by
  obtain ⟨-, h⟩ | ⟨-, h⟩ := onIterate_cases it s <;> exact (congrArg State.blockStores h).trans rfl

/-- An event reaches the block's stores only as a word written to CMD or as the reset input. -/
theorem handle_blockStores {e : Event} {s t : State} (h : handle e s = .next t) :
    t.blockStores = s.blockStores ∨ (∃ w, e = .regWrite 0 w ∧ runCommand w s = .next t) ∨ e = .blockReset := by
  cases e with
  | regWrite n v =>
    by_cases hn : n = 0
    · subst hn
      exact .inr (.inl ⟨v, rfl, h⟩)
    · have hw : Host.Outcome.next (s.writeReg n v) = .next t := (busWrite_pos hn v s).symm.trans h
      exact .inl (Host.Outcome.next.inj hw ▸ writeReg_blockStores s n v)
  | regRead n => exact .inl (Host.Outcome.next.inj h ▸ rfl)
  | cpu call writes => exact .inl (cpuCall_blockStores h)
  | blockReset => exact .inr (.inr rfl)
  | resize W H => exact .inl (Host.Outcome.next.inj h ▸ onResize_blockStores W H s)
  | visibility visible => exact .inl (Host.Outcome.next.inj h ▸ onVisibility_blockStores visible s)
  | iterate it => exact .inl (Host.Outcome.next.inj h ▸ onIterate_blockStores it s)
  | close => exact .inl (Host.Outcome.next.inj h ▸ rfl)
  | startupFailure => exact .inl (Host.Outcome.next.inj h ▸ rfl)

/-- A step leaves the block's stores alone, runs the word at the head of the queue, or is the reset. -/
theorem step_blockStores {s t : State} (h : step s = .next t) :
    t.blockStores = s.blockStores ∨
      (∃ w rest, s.pending = .regWrite 0 w :: rest ∧ runCommand w (s.setPending rest) = .next t) ∨
      ∃ rest, s.pending = .blockReset :: rest := by
  obtain ⟨-, rfl⟩ | ⟨e, rest, hp, ⟨-, rfl⟩ | ⟨-, handled⟩⟩ := step_cases h
  · exact .inl rfl
  · exact .inl (setPending_blockStores s rest)
  · obtain kept | ⟨w, rfl, ran⟩ | rfl := handle_blockStores handled
    · exact .inl (kept.trans (setPending_blockStores s rest))
    · exact .inr (.inl ⟨w, rest, hp, ran⟩)
    · exact .inr (.inr ⟨rest, hp⟩)

/-! ### The sticky flags -/

/-- Setting bits clears none. -/
theorem and_or_self_eq {n : Nat} (a b : BitVec n) : a &&& (a ||| b) = a := by
  ext i
  rw [BitVec.getElem_and, BitVec.getElem_or]
  exact inf_sup_self

/-- A command that is not rejected leaves STATUS as it was. -/
theorem exec_status {i : Instr} {s t : State} (h : exec i s = .next t) : t.status = s.status ∨ t = s.reject := by
  cases exec_outcome h with
  | rejected => exact .inr rfl
  | vport W H => exact .inl (congrArg BlockStores.status (resizeSurf_blockStores s W H))
  | setpix | getpix | loadfb | colorat | loadpal | uploadfb | uploadpal | decode => exact .inl rfl

/-- A word written to CMD, command or not, clears no flag. -/
theorem runCommand_keeps_flags {w : Word} {s t : State} (h : runCommand w s = .next t) :
    s.status &&& t.status = s.status := by
  cases hd : decodeWord w with
  | ok i =>
    rw [runCommand_ok hd] at h
    obtain kept | rfl := exec_status h
    · rw [kept, BitVec.and_self]
    · exact and_or_self_eq s.status 1
  | error e =>
    rw [runCommand_error hd, Host.Outcome.next.injEq] at h
    exact h ▸ and_or_self_eq s.status 2

/-- Settles O10: STATUS changes only by a word written to CMD, which at most sets a flag, or by the reset. -/
theorem flagsStaySetUntilReset : Obligations.FlagsStaySetUntilReset := by
  intro s t hs notReset
  obtain kept | ⟨w, rest, -, ran⟩ | ⟨rest, hp⟩ := step_blockStores hs
  · have hstatus : t.status = s.status := congrArg BlockStores.status kept
    rw [hstatus, BitVec.and_self]
  · simpa using runCommand_keeps_flags ran
  · exact absurd hp (notReset rest)

/-! ### The writer of each store -/

theorem resizeSurf_fb (s : State) (W H : Nat) : (s.resizeSurf W H).fb = s.fb :=
  congrArg BlockStores.fb (resizeSurf_blockStores s W H)

theorem resizeSurf_fbtex (s : State) (W H : Nat) : (s.resizeSurf W H).fbtex = s.fbtex :=
  congrArg BlockStores.fbtex (resizeSurf_blockStores s W H)

theorem resizeSurf_pal (s : State) (W H : Nat) : (s.resizeSurf W H).pal = s.pal :=
  congrArg BlockStores.pal (resizeSurf_blockStores s W H)

theorem resizeSurf_paltex (s : State) (W H : Nat) : (s.resizeSurf W H).paltex = s.paltex :=
  congrArg BlockStores.paltex (resizeSurf_blockStores s W H)

theorem resizeSurf_presented (s : State) (W H : Nat) : (s.resizeSurf W H).presented = s.presented :=
  congrArg BlockStores.presented (resizeSurf_blockStores s W H)

theorem resizeSurf_result (s : State) (W H : Nat) : (s.resizeSurf W H).result = s.result :=
  congrArg BlockStores.result (resizeSurf_blockStores s W H)

theorem exec_pal_writer {i : Instr} {s t : State} (h : exec i s = .next t) (changed : t.pal ≠ s.pal) :
    i = .loadpal := by
  cases exec_outcome h with
  | loadpal => rfl
  | vport W H => exact absurd (resizeSurf_pal s W H) changed
  | rejected | setpix | getpix | loadfb | colorat | uploadfb | uploadpal | decode => exact absurd rfl changed

theorem runCommand_pal_writer {w : Word} {s t : State} (h : runCommand w s = .next t) (changed : t.pal ≠ s.pal) :
    decodeWord w = .ok .loadpal := by
  cases hd : decodeWord w with
  | ok i =>
    rw [runCommand_ok hd] at h
    rw [exec_pal_writer h changed]
  | error e =>
    rw [runCommand_error hd, Host.Outcome.next.injEq] at h
    exact absurd (h ▸ rfl) changed

/-- Settles O51: the outcome of each command changes its own store only, and a step reaches PAL only through a
word written to CMD or the reset. -/
theorem eachStoreHasItsOwnWriter : Obligations.EachStoreHasItsOwnWriter := by
  refine ⟨fun i s t h => ?_, fun s t hs changed => ?_⟩
  · cases exec_outcome h with
    | rejected => simp [reject_eq]
    | setpix | loadfb | uploadfb | loadpal | uploadpal | decode | getpix | colorat => simp
    | vport W H =>
      simp [resizeSurf_fb, resizeSurf_fbtex, resizeSurf_pal, resizeSurf_paltex, resizeSurf_presented,
        resizeSurf_result]
  · obtain kept | ⟨w, rest, hp, ran⟩ | reset := step_blockStores hs
    · exact absurd (congrArg BlockStores.pal kept) changed
    · exact .inl ⟨w, rest, hp, runCommand_pal_writer ran changed⟩
    · exact .inr reset

end Sys2Proof.Machine
end

section
/-! PROOFS. The machine invariant (20_memory R50, 10_state R22 to R38): one rule per update that writes a field the
invariant speaks of, then commands, events and the step (O47). An update of any other field keeps the invariant as
it stands, so there the hypothesis itself is the proof. -/

namespace Sys2Proof.Machine

/-! ### The updates of the state -/

theorem State.Inv.setFb {s : State} {v : List Byte} (h : s.Inv) (hlen : v.length = s.cfg.fbBytes) :
    (s.setFb v).Inv := by
  obtain ⟨⟨-, htex⟩, hrest⟩ := h
  exact ⟨⟨hlen, htex⟩, hrest⟩

theorem State.Inv.setFbtex {s : State} {v : List (List Byte)} (h : s.Inv) (hlen : v.length = s.cfg.height)
    (hrows : ∀ row ∈ v, row.length = rowBytes s.cfg) : (s.setFbtex v).Inv := by
  obtain ⟨⟨hfb, -⟩, hrest⟩ := h
  exact ⟨⟨hfb, hlen, hrows⟩, hrest⟩

theorem State.Inv.setWarp {s : State} {v : BitVec 9} (h : s.Inv) (hv : v.toNat ≤ 256) : (s.setWarp v).Inv := by
  obtain ⟨hstores, ⟨-, hscan⟩, hrest⟩ := h
  exact ⟨hstores, ⟨hv, hscan⟩, hrest⟩

theorem State.Inv.setScan {s : State} {v : BitVec 9} (h : s.Inv) (hv : v.toNat ≤ 256) : (s.setScan v).Inv := by
  obtain ⟨hstores, ⟨hwarp, -⟩, hrest⟩ := h
  exact ⟨hstores, ⟨hwarp, hv⟩, hrest⟩

theorem State.Inv.setSurf {s : State} {v : Frame} (h : s.Inv)
    (hv : v.length = s.surfH ∧ ∀ row ∈ v, row.length = s.surfW) : (s.setSurf v).Inv := by
  obtain ⟨hstores, hstrengths, ⟨hsize, -, hvp⟩, hrest⟩ := h
  exact ⟨hstores, hstrengths, ⟨hsize, hv, hvp⟩, hrest⟩

theorem State.Inv.setCpuMem {s : State} {v : Memory} (h : s.Inv) (hwf : v.wf)
    (haddr : ∀ c ∈ v, c.1 < 2 ^ s.cfg.addrBits) : (s.setCpuMem v).Inv := by
  obtain ⟨hstores, hstrengths, hsurf, -, hcadence⟩ := h
  exact ⟨hstores, hstrengths, hsurf, ⟨hwf, haddr⟩, hcadence⟩

theorem State.Inv.setCadence {s : State} {k : Cadence} (h : s.Inv) (hrate : 1 ≤ k.refresh)
    (hbudget : k.budget = cycleBudget s.cfg k.refresh) : (s.setCadence (some k)).Inv := by
  obtain ⟨hstores, hstrengths, hsurf, hmem, -⟩ := h
  exact ⟨hstores, hstrengths, hsurf, hmem, hrate, hbudget⟩

/-- A new size comes with a surface of that size and the Mapper's rectangle for it, all three at once: between
them the invariant does not hold. -/
theorem State.Inv.setSurf_setView {s : State} {v : Frame} {W H : Nat} (h : s.Inv) (hsize : W ≤ 16383 ∧ H ≤ 16383)
    (hv : v.length = H ∧ ∀ row ∈ v, row.length = W) :
    ((s.setSurf v).setView W H (viewport s.cfg W H)).Inv := by
  obtain ⟨hstores, hstrengths, -, hrest⟩ := h
  exact ⟨hstores, hstrengths, ⟨hsize, hv, rfl⟩, hrest⟩

/-! ### The operations on the state -/

/-- VPORT keeps a surface of the right size and replaces any other, and then latches the size. -/
theorem State.Inv.resize {s : State} {W H : Nat} (h : s.Inv) (hsize : W ≤ 16383 ∧ H ≤ 16383) :
    ((s.resizeSurf W H).setView W H (viewport s.cfg W H)).Inv := by
  obtain ⟨⟨rfl, rfl⟩, same⟩ | ⟨-, changed⟩ := resizeSurf_cases s W H
  · obtain ⟨-, -, ⟨-, hshape, -⟩, -⟩ := id h
    rw [same]
    exact h.setSurf_setView hsize hshape
  · rw [changed]
    exact h.setSurf_setView hsize (unspecifiedFrame_shape s.draws W H)

theorem saturate_le (v : Word) : (saturate v).toNat ≤ 256 :=
  saturate_toNat v ▸ Nat.min_le_right _ _

theorem State.Inv.writeReg {s : State} (h : s.Inv) (n : Nat) (v : Word) : (s.writeReg n v).Inv := by
  obtain hw | hw | hw | ⟨p, hw⟩ := writeReg_cases s n v <;> rw [hw]
  · exact h
  · exact h.setWarp (saturate_le v)
  · exact h.setScan (saturate_le v)
  · exact h

/-- The reset puts the block in its reset state and keeps what the invariant says of CPU memory and the host. -/
theorem State.Inv.blockReset {s : State} (h : s.Inv) : s.blockReset.Inv := by
  obtain ⟨-, -, -, hmem, hcadence⟩ := h
  exact ⟨resetOf_storesShaped s.cfg s.draws, resetOf_strengthsLegal s.cfg s.draws,
    resetOf_surfaceShaped s.cfg s.draws, hmem, hcadence⟩

/-! ### The commands -/

/-- A row of FBTEX after an UPLOADFB is a row of FB or was there before. -/
theorem uploaded_row_length {s : State} {y0 n : Nat} (h : ∀ row ∈ s.fbtex, row.length = rowBytes s.cfg) :
    ∀ row ∈ s.fbtex.mapIdx (fun r row => if y0 ≤ r ∧ r < y0 + n then s.fbRow r else row),
      row.length = rowBytes s.cfg := by
  intro row hrow
  obtain ⟨r, hr, rfl⟩ := List.mem_mapIdx.1 hrow
  split
  · exact fbRow_length s r
  · exact h _ (List.getElem_mem hr)

theorem exec_keeps_inv {i : Instr} {s t : State} (hwf : i.WellFormed) (h : s.Inv) (he : exec i s = .next t) :
    t.Inv := by
  obtain ⟨⟨hfb, htex, hrows⟩, -⟩ := id h
  cases exec_outcome he with
  | setpix x y c8 => exact h.setFb (List.length_set.trans hfb)
  | loadfb => exact h.setFb (window_length s)
  | uploadfb y0 n => exact h.setFbtex (List.length_mapIdx.trans htex) (uploaded_row_length hrows)
  | decode => exact h.setSurf (decodedFrame_shape s)
  | vport W H =>
    obtain ⟨hW, hH⟩ := hwf
    exact h.resize ⟨Nat.le_of_lt_succ hW, Nat.le_of_lt_succ hH⟩
  | rejected | getpix | colorat | loadpal | uploadpal => exact h

/-! ### The events -/

theorem runCommand_keeps_inv {w : Word} {s t : State} (h : s.Inv) (hr : runCommand w s = .next t) : t.Inv := by
  cases hd : decodeWord w with
  | ok i => exact exec_keeps_inv (decodeWord_wellFormed hd) h (runCommand_ok hd s ▸ hr)
  | error e =>
    rw [runCommand_error hd, Host.Outcome.next.injEq] at hr
    exact hr ▸ h

theorem busWrite_keeps_inv {n : Nat} {v : Word} {s t : State} (h : s.Inv) (hb : busWrite n v s = .next t) :
    t.Inv := by
  by_cases hn : n = 0
  · subst hn
    exact runCommand_keeps_inv h hb
  · rw [busWrite_pos hn, Host.Outcome.next.injEq] at hb
    exact hb ▸ h.writeReg n v

/-- A call that answers changes only bytes that exist, and every write keeps the canonical form. -/
theorem cpuCall_keeps_inv {ws : List Host.Cell} {s t : State} (h : s.Inv) (hc : cpuCall ws s = .next t) :
    t.Inv := by
  obtain ⟨-, -, -, ⟨hwf, haddr⟩, -⟩ := id h
  obtain ⟨hws, hs⟩ | ⟨c, -, -, hs⟩ := cpuCall_cases ws s
  · rw [← Host.Outcome.next.inj (hs.symm.trans hc)]
    exact h.setCpuMem (Memory.writeAll_wf hwf ws) fun c hmem => (Memory.mem_writeAll hmem).elim (hws c) (haddr c)
  · cases hs.symm.trans hc

/-- The default rate replaces a reported 0, and is itself at least 1 (45_presentation_loop R185). -/
theorem refreshRate_pos (c : Cfg) (reported : Option Nat) : 1 ≤ refreshRate c reported := by
  cases reported with
  | none => exact c.defaultRefresh_pos
  | some r =>
    rw [refreshRate]
    split
    · exact c.defaultRefresh_pos
    · exact Nat.one_le_iff_ne_zero.2 ‹_›

theorem onResize_inv {s : State} (h : s.Inv) (W H : BitVec 14) : (onResize W H s).Inv := by
  obtain ⟨-, hs⟩ | ⟨-, hs⟩ := onResize_cases W H s <;> rw [hs] <;> exact h

theorem onVisibility_inv {s : State} (h : s.Inv) (visible : Bool) : (onVisibility visible s).Inv := by
  obtain hs | ⟨-, hs⟩ | ⟨-, hs⟩ := onVisibility_cases visible s <;> rw [hs] <;> exact h

theorem onIterate_inv {s : State} (h : s.Inv) (it : Iteration) : (onIterate it s).Inv := by
  obtain ⟨-, hs⟩ | ⟨-, hs⟩ := onIterate_cases it s <;> rw [hs]
  · exact h
  · exact h.setCadence (refreshRate_pos _ _) rfl

theorem handle_keeps_inv {e : Event} {s t : State} (h : s.Inv) (he : handle e s = .next t) : t.Inv := by
  cases e with
  | regWrite n v => exact busWrite_keeps_inv h he
  | regRead n => exact Host.Outcome.next.inj he ▸ h
  | cpu call writes => exact cpuCall_keeps_inv h he
  | blockReset => exact Host.Outcome.next.inj he ▸ h.blockReset
  | resize W H => exact Host.Outcome.next.inj he ▸ onResize_inv h W H
  | visibility visible => exact Host.Outcome.next.inj he ▸ onVisibility_inv h visible
  | iterate it => exact Host.Outcome.next.inj he ▸ onIterate_inv h it
  | close => exact Host.Outcome.next.inj he ▸ h
  | startupFailure => exact Host.Outcome.next.inj he ▸ h

/-! ### The step -/

theorem step_keeps_inv {s t : State} (h : s.Inv) (hs : step s = .next t) : t.Inv := by
  obtain ⟨-, rfl⟩ | ⟨e, rest, -, ⟨-, rfl⟩ | ⟨-, handled⟩⟩ := step_cases hs
  · exact h
  · exact h
  · exact handle_keeps_inv (s := s.setPending rest) h handled

/-- Settles O47: a step idles, skips an event or handles one, and each update an event is made of keeps the
invariant. -/
theorem everyStepKeepsTheInvariant : Obligations.EveryStepKeepsTheInvariant :=
  fun _ _ => step_keeps_inv

end Sys2Proof.Machine
end

section
/-! PROOFS. Pixels as nibbles of FB (20_memory R52, R57, R58): where a pixel lies (O11), and what Pack and Unpack do
to the byte that holds it (O12). -/

namespace Sys2Proof.Machine

/-- The row of a byte that lies `a` bytes into row `r`, with `w` bytes in each row. -/
theorem row_of_offset {w a : Nat} (ha : a < w) (r : Nat) : (r * w + a) / w = r := by
  rw [Nat.mul_comm, Nat.mul_add_div (Nat.zero_lt_of_lt ha), Nat.div_eq_of_lt ha, Nat.add_zero]

/-- A byte lies in one row only, and at one offset within it. -/
theorem row_offset_inj {w r r' a a' : Nat} (ha : a < w) (ha' : a' < w) :
    r' * w + a' = r * w + a ↔ r' = r ∧ a' = a := by
  refine ⟨fun h => ?_, fun ⟨hr, ho⟩ => by rw [hr, ho]⟩
  obtain rfl : r' = r := by rw [← row_of_offset ha' r', h, row_of_offset ha]
  exact ⟨rfl, Nat.add_left_cancel h⟩

/-- The byte of a logical pixel lies within its row. -/
theorem half_lt_rowBytes {c : Cfg} {x : Nat} (hx : x < c.width) : x / 2 < c.width / 2 := by
  have := c.width_bounds
  omega

theorem pixByte_lt_fbBytes {c : Cfg} {x y : Nat} (hx : x < c.width) (hy : y < c.height) :
    pixByte c x y < c.fbBytes := by
  rw [pixByte_eq, fbBytes_eq]
  calc y * (c.width / 2) + x / 2 < y * (c.width / 2) + c.width / 2 := Nat.add_lt_add_left (half_lt_rowBytes hx) _
    _ = (y + 1) * (c.width / 2) := (Nat.succ_mul _ _).symm
    _ ≤ c.height * (c.width / 2) := Nat.mul_le_mul_right _ hy

/-- WIDTH is even, so the parity of a pixel's number is that of its column. -/
theorem pixelNumber_parity (c : Cfg) (x y : Nat) : (y * c.width + x) % 2 = x % 2 := by
  obtain ⟨-, -, heven⟩ := c.width_bounds
  rw [Nat.add_mod, Nat.mul_mod, heven, Nat.mul_zero, Nat.zero_mod, Nat.zero_add, Nat.mod_mod]

theorem pixByte_eq_iff {c : Cfg} {x x' : Nat} (hx : x < c.width) (hx' : x' < c.width) (y y' : Nat) :
    pixByte c x' y' = pixByte c x y ↔ y' = y ∧ x' / 2 = x / 2 := by
  rw [pixByte_eq, pixByte_eq]
  exact row_offset_inj (half_lt_rowBytes hx) (half_lt_rowBytes hx')

/-- Settles O11: WIDTH is even, so a pixel's byte is a row number and an offset of half the column. -/
theorem pixelAddressesLieInFb : Obligations.PixelAddressesLieInFb :=
  fun c x y hx hy => ⟨pixByte_lt_fbBytes hx hy, pixelNumber_parity c x y, pixByte_eq c x y,
    fun _ y' hx' _ => pixByte_eq_iff hx hx' y y'⟩

theorem unpack_pack_same (b : Byte) (x v : Nat) : (unpack (pack b x v) x).toNat = v % 16 := by
  rw [unpack_toNat, pack_toNat]
  split <;> omega

/-- A pack leaves the nibble of the other parity alone. -/
theorem unpack_pack_other (b : Byte) {x x' : Nat} (v : Nat) (h : x' % 2 ≠ x % 2) :
    unpack (pack b x v) x' = unpack b x' := by
  apply BitVec.eq_of_toNat_eq
  rw [unpack_toNat, unpack_toNat, pack_toNat]
  split <;> split <;> omega

/-- Settles O12: both operations as quotients and remainders by 16. -/
theorem packWritesOneNibble : Obligations.PackWritesOneNibble :=
  fun b x v => ⟨unpack_toNat b x, pack_toNat b x v, unpack_pack_same b x v,
    fun _ => unpack_pack_other b v (by omega), fun _ => unpack_pack_other b v (by omega)⟩

end Sys2Proof.Machine
end

section
/-! PROOFS. What a command does not reach (20_memory R62, R63, R72): DECODE's picture depends on its listed inputs
alone (O34), and no command writes CPU memory, the host's registers or the host (O50). -/

namespace Sys2Proof.Machine

/-! ### The inputs of DECODE -/

theorem decodePixel_of_sameInputs {s t : State} (h : SameDecoderInputs s t) (px py : Nat) :
    t.decodePixel px py = s.decodePixel px py := by
  obtain ⟨hcfg, hvp, -, -, hwarp, hscan, hfbtex, hpaltex⟩ := h
  simp only [State.decodePixel, State.shade, State.texColour, State.texIndex, State.texel, hcfg, hvp, hwarp, hscan,
    hfbtex, hpaltex]

/-- At a covered pixel the surface DECODE writes holds no free value. -/
theorem colourAt_decodedFrame {s : State} {px py : Nat} (h : Covered s.vp px py) :
    Frame.colourAt s.decodedFrame px py =
      if px < s.surfW ∧ py < s.surfH then some (s.decodePixel px py) else none := by
  rw [State.decodedFrame]
  split
  case isTrue hin => rw [colourAt_inside _ hin.1 hin.2, if_pos h]
  case isFalse hout => exact colourAt_outside _ hout

theorem exec_decode_surf {s t : State} (h : exec .decode s = .next t) : t.surf = s.decodedFrame :=
  Host.Outcome.next.inj h ▸ rfl

/-- Settles O34: a covered pixel is DecodePixel of the inputs. -/
theorem decodeSeesOnlyItsInputs : Obligations.DecodeSeesOnlyItsInputs := by
  intro s₁ s₂ t₁ t₂ same h₁ h₂ px py covered
  obtain ⟨-, hvp, hW, hH, -⟩ := id same
  rw [exec_decode_surf h₁, exec_decode_surf h₂, colourAt_decodedFrame covered,
    colourAt_decodedFrame (hvp ▸ covered), hW, hH, decodePixel_of_sameInputs same]

/-! ### The frame of every command -/

/-- Settles O50: each outcome of a command writes a store of the block that is none of these; VPORT, which may also
draw a new surface, reaches no more by that. -/
theorem commandsLeaveHostAndCpuAlone : Obligations.CommandsLeaveHostAndCpuAlone := by
  intro i s t h
  cases exec_outcome h with
  | vport W H =>
    obtain ⟨-, hs⟩ | ⟨-, hs⟩ := resizeSurf_cases s W H <;> simp [hs]
  | rejected => simp [reject_eq]
  | setpix | getpix | loadfb | colorat | loadpal | uploadfb | uploadpal | decode => simp

end Sys2Proof.Machine
end

section
/-! PROOFS. The encoding (30_encoding R80 to R88): what the decoder answers for each opcode (O3), which bits of a word
a command uses, and from both when a word stands for a command (O1, O2, O4, O5, O7). -/

namespace Sys2Proof.Machine

/-! ### The decoder, opcode by opcode -/

theorem decodeWord_setpix {w : Word} (h : w.toNat / 2 ^ 28 = 1) :
    decodeWord w = .ok (.setpix (w.toNat % 2 ^ 10) (w.toNat / 2 ^ 10 % 2 ^ 10) (w.toNat / 2 ^ 20 % 2 ^ 8)) := by
  rw [decodeWord, opField_toNat, h, xField_toNat, yField_toNat, c8Field_toNat]
  rfl

theorem decodeWord_getpix {w : Word} (h : w.toNat / 2 ^ 28 = 2) :
    decodeWord w = .ok (.getpix (w.toNat % 2 ^ 10) (w.toNat / 2 ^ 10 % 2 ^ 10)) := by
  rw [decodeWord, opField_toNat, h, xField_toNat, yField_toNat]
  rfl

theorem decodeWord_loadfb {w : Word} (h : w.toNat / 2 ^ 28 = 3) : decodeWord w = .ok .loadfb := by
  rw [decodeWord, opField_toNat, h]
  rfl

theorem decodeWord_colorat {w : Word} (h : w.toNat / 2 ^ 28 = 4) :
    decodeWord w = .ok (.colorat (w.toNat % 2 ^ 8)) := by
  rw [decodeWord, opField_toNat, h, idx8Field_toNat]
  rfl

theorem decodeWord_loadpal {w : Word} (h : w.toNat / 2 ^ 28 = 5) : decodeWord w = .ok .loadpal := by
  rw [decodeWord, opField_toNat, h]
  rfl

theorem decodeWord_uploadfb {w : Word} (h : w.toNat / 2 ^ 28 = 6) :
    decodeWord w = .ok (.uploadfb (w.toNat % 2 ^ 11) (w.toNat / 2 ^ 11 % 2 ^ 11)) := by
  rw [decodeWord, opField_toNat, h, y0Field_toNat, nField_toNat]
  rfl

theorem decodeWord_uploadpal {w : Word} (h : w.toNat / 2 ^ 28 = 7) : decodeWord w = .ok .uploadpal := by
  rw [decodeWord, opField_toNat, h]
  rfl

theorem decodeWord_decode {w : Word} (h : w.toNat / 2 ^ 28 = 8) : decodeWord w = .ok .decode := by
  rw [decodeWord, opField_toNat, h]
  rfl

theorem decodeWord_vport {w : Word} (h : w.toNat / 2 ^ 28 = 9) :
    decodeWord w = .ok (.vport (w.toNat % 2 ^ 14) (w.toNat / 2 ^ 14 % 2 ^ 14)) := by
  rw [decodeWord, opField_toNat, h, widthField_toNat, heightField_toNat]
  rfl

/-- Settles O3: the decoder's equation at each opcode. -/
theorem fieldsAreReadFromTheFormats : Obligations.FieldsAreReadFromTheFormats := by
  rintro w v rfl
  exact ⟨decodeWord_setpix, decodeWord_getpix, decodeWord_loadfb, decodeWord_colorat, decodeWord_loadpal,
    decodeWord_uploadfb, decodeWord_uploadpal, decodeWord_decode, decodeWord_vport⟩

/-- An error names the opcode, and the opcode is a reserved one. -/
theorem decodeWord_error {w : Word} {e : DecodeError} (h : decodeWord w = .error e) :
    ReservedOpcode (w.toNat / 2 ^ 28) ∧ e = .reservedOpcode (BitVec.ofNat 4 (w.toNat / 2 ^ 28)) := by
  unfold decodeWord at h
  split at h <;> cases h
  rw [← opField_toNat, BitVec.ofNat_toNat, BitVec.setWidth_eq]
  refine ⟨?_, rfl⟩
  simp only [imp_false] at *
  have := (opField w).isLt
  omega

/-! ### The bits a command uses -/

/-- How many of a word's low bits hold the command's operands; its format reserves those from here up to the opcode
(30_encoding R81 to R83). -/
def operandWidth (i : Instr) : Nat :=
  match i with
  | .setpix _ _ _ => 28
  | .getpix _ _ => 20
  | .loadfb => 0
  | .colorat _ => 8
  | .loadpal => 0
  | .uploadfb _ _ => 22
  | .uploadpal => 0
  | .decode => 0
  | .vport _ _ => 28

theorem usedBits_eq (i : Instr) : i.usedBits = 15#4 ++ BitVec.ofNat 28 (2 ^ operandWidth i - 1) := by
  apply BitVec.eq_of_toNat_eq
  rw [toNat_append_mul, BitVec.toNat_ofNat, BitVec.toNat_ofNat]
  cases i <;> simp [operandWidth, Instr.usedBits]

theorem operandWidth_le (i : Instr) : operandWidth i ≤ 28 := by
  cases i <;> simp [operandWidth]

/-- What is left of a word when only its opcode and its low `k` bits are kept. -/
theorem and_opcodeAndLow_toNat (w : Word) {k : Nat} (hk : k ≤ 28) :
    (w &&& (15#4 ++ BitVec.ofNat 28 (2 ^ k - 1))).toNat = w.toNat / 2 ^ 28 * 2 ^ 28 + w.toNat % 2 ^ k := by
  have fields : w = opField w ++ w.extractLsb' 0 28 :=
    (BitVec.extractLsb'_append_extractLsb' (w := 4) (len := 28)).symm
  have high : opField w &&& 15#4 = opField w := BitVec.and_allOnes
  have mask : (2 ^ k - 1) % 2 ^ 28 = 2 ^ k - 1 :=
    Nat.mod_eq_of_lt (by have := Nat.pow_le_pow_right Nat.two_pos hk; have := Nat.two_pow_pos k; omega)
  calc (w &&& (15#4 ++ BitVec.ofNat 28 (2 ^ k - 1))).toNat
      = (opField w ++ (w.extractLsb' 0 28 &&& BitVec.ofNat 28 (2 ^ k - 1))).toNat := by
        conv_lhs => rw [fields]
        rw [BitVec.and_append, high]
    _ = w.toNat / 2 ^ 28 * 2 ^ 28 + w.toNat % 2 ^ 28 % 2 ^ k := by
        rw [toNat_append_mul, opField_toNat, BitVec.toNat_and, BitVec.toNat_ofNat, mask,
          Nat.and_two_pow_sub_one_eq_mod, toNat_field, pow_zero, Nat.div_one]
    _ = w.toNat / 2 ^ 28 * 2 ^ 28 + w.toNat % 2 ^ k := by rw [Nat.mod_mod_of_dvd _ (Nat.pow_dvd_pow 2 hk)]

theorem and_usedBits_toNat (w : Word) (i : Instr) :
    (w &&& i.usedBits).toNat = w.toNat / 2 ^ 28 * 2 ^ 28 + w.toNat % 2 ^ operandWidth i := by
  rw [usedBits_eq, and_opcodeAndLow_toNat w (operandWidth_le i)]

/-- A command's operands as one number, by its format (30_encoding R81 to R83). -/
def operandNumber (i : Instr) : Nat :=
  match i with
  | .setpix x y c8 => c8 * 2 ^ 20 + y * 2 ^ 10 + x
  | .getpix x y => y * 2 ^ 10 + x
  | .loadfb => 0
  | .colorat idx8 => idx8
  | .loadpal => 0
  | .uploadfb y0 n => n * 2 ^ 11 + y0
  | .uploadpal => 0
  | .decode => 0
  | .vport W H => H * 2 ^ 14 + W

theorem operandBits_toNat {i : Instr} (h : i.WellFormed) : i.operandBits.toNat = operandNumber i := by
  cases i with
  | loadfb | loadpal | uploadpal | decode => rfl
  | setpix | getpix | colorat | uploadfb | vport =>
    simp only [Instr.WellFormed] at h
    simp only [Instr.operandBits, operandNumber, toNat_append_mul, BitVec.toNat_ofNat]
    omega

theorem operandNumber_lt_width {i : Instr} (h : i.WellFormed) : operandNumber i < 2 ^ operandWidth i := by
  cases i <;> simp only [Instr.WellFormed, operandNumber, operandWidth] at * <;> omega

/-- A word agrees with a command's word on the used bits when it has the command's opcode and operands. -/
theorem and_usedBits_eq_encode_iff {i : Instr} (hwf : i.WellFormed) (w : Word) :
    w &&& i.usedBits = encode i ↔
      w.toNat / 2 ^ 28 = i.opcode ∧ w.toNat % 2 ^ operandWidth i = operandNumber i := by
  have small : 2 ^ operandWidth i ≤ 2 ^ 28 := Nat.pow_le_pow_right Nat.two_pos (operandWidth_le i)
  have low : w.toNat % 2 ^ operandWidth i < 2 ^ operandWidth i := Nat.mod_lt _ (Nat.two_pow_pos _)
  have operands := operandNumber_lt_width hwf
  rw [← BitVec.toNat_inj, and_usedBits_toNat, encode_toNat, operandBits_toNat hwf]
  omega

/-- The encoder writes every reserved bit as 0 (30_encoding R86). -/
theorem encode_and_usedBits {i : Instr} (hwf : i.WellFormed) : encode i &&& i.usedBits = encode i := by
  have operands := operandBits_lt i
  have aligned : 2 ^ operandWidth i ∣ i.opcode * 2 ^ 28 := (Nat.pow_dvd_pow 2 (operandWidth_le i)).mul_left _
  rw [and_usedBits_eq_encode_iff hwf, encode_toNat]
  constructor
  · omega
  · rw [Nat.add_mod, Nat.mod_eq_zero_of_dvd aligned, Nat.zero_add, Nat.mod_mod, operandBits_toNat hwf,
      Nat.mod_eq_of_lt (operandNumber_lt_width hwf)]

/-! ### When a word stands for a command -/

/-- The decoder answers a command only for a word that has its opcode and its operands. -/
theorem fields_of_decodeWord {w : Word} {i : Instr} (h : decodeWord w = .ok i) :
    w.toNat / 2 ^ 28 = i.opcode ∧ w.toNat % 2 ^ operandWidth i = operandNumber i := by
  rw [← opField_toNat]
  unfold decodeWord at h
  split at h <;> cases h <;> refine ⟨by assumption, ?_⟩
  case h_1 => rw [xField_toNat, yField_toNat, c8Field_toNat, operandNumber, operandWidth]; omega
  case h_2 => rw [xField_toNat, yField_toNat, operandNumber, operandWidth]; omega
  case h_4 => rw [idx8Field_toNat]; rfl
  case h_6 => rw [y0Field_toNat, nField_toNat, operandNumber, operandWidth]; omega
  case h_9 => rw [widthField_toNat, heightField_toNat, operandNumber, operandWidth]; omega
  all_goals exact Nat.mod_one _

/-- The decoder answers a well-formed command for every word that has its opcode and its operands. -/
theorem decodeWord_of_fields {w : Word} {i : Instr} (hwf : i.WellFormed) (opcode : w.toNat / 2 ^ 28 = i.opcode)
    (operands : w.toNat % 2 ^ operandWidth i = operandNumber i) : decodeWord w = .ok i := by
  cases i <;> simp only [Instr.WellFormed, operandWidth, operandNumber] at hwf operands
  case setpix => rw [decodeWord_setpix opcode]; congr 2 <;> omega
  case getpix => rw [decodeWord_getpix opcode]; congr 2 <;> omega
  case loadfb => exact decodeWord_loadfb opcode
  case colorat => rw [decodeWord_colorat opcode, operands]
  case loadpal => exact decodeWord_loadpal opcode
  case uploadfb => rw [decodeWord_uploadfb opcode]; congr 2 <;> omega
  case uploadpal => exact decodeWord_uploadpal opcode
  case decode => exact decodeWord_decode opcode
  case vport => rw [decodeWord_vport opcode]; congr 2 <;> omega

/-- A word is a command exactly when the command is well formed and the bits its format uses are the encoder's. -/
theorem decodeWord_eq_ok_iff {w : Word} {i : Instr} :
    decodeWord w = .ok i ↔ i.WellFormed ∧ w &&& i.usedBits = encode i := by
  constructor
  · intro h
    have hwf := decodeWord_wellFormed h
    exact ⟨hwf, (and_usedBits_eq_encode_iff hwf w).2 (fields_of_decodeWord h)⟩
  · rintro ⟨hwf, hbits⟩
    obtain ⟨opcode, operands⟩ := (and_usedBits_eq_encode_iff hwf w).1 hbits
    exact decodeWord_of_fields hwf opcode operands

/-- Settles O1: a command's word is its own used bits, which are all the decoder looks at. -/
theorem encodeThenDecodeIsIdentity : Obligations.EncodeThenDecodeIsIdentity :=
  fun _ hwf => decodeWord_eq_ok_iff.2 ⟨hwf, encode_and_usedBits hwf⟩

/-- Settles O4: both words leave the same bits once the reserved ones are dropped. -/
theorem reservedBitsAreIgnored : Obligations.ReservedBitsAreIgnored := by
  intro w v i hw hsame
  obtain ⟨hwf, hbits⟩ := decodeWord_eq_ok_iff.1 hw
  exact ⟨decodeWord_eq_ok_iff.2 ⟨hwf, hsame.trans hbits⟩, hbits.symm⟩

/-- The mask of 30_encoding R84 leaves the opcode in its place. -/
theorem and_opcodeMask (w : Word) : w &&& 0xF0000000 = BitVec.ofNat 32 (w.toNat / 2 ^ 28 * 2 ^ 28) := by
  have hw := w.isLt
  have kept : (w &&& 0xF0000000).toNat = w.toNat / 2 ^ 28 * 2 ^ 28 + w.toNat % 2 ^ 0 := and_usedBits_toNat w .loadfb
  apply BitVec.eq_of_toNat_eq
  rw [kept, BitVec.toNat_ofNat]
  omega

/-- Settles O2: an error means a reserved opcode, and no command has one. -/
theorem wordIsCommandExactlyWhenItMatches : Obligations.WordIsCommandExactlyWhenItMatches := by
  intro w
  refine ⟨⟨?range, ?command⟩, ?word, ?error⟩
  case range =>
    rintro ⟨i, h⟩
    obtain ⟨opcode, -⟩ := fields_of_decodeWord h
    exact opcode ▸ opcode_range i
  case command =>
    intro range
    cases hd : decodeWord w with
    | ok i => exact ⟨i, rfl⟩
    | error e =>
      obtain ⟨reserved, -⟩ := decodeWord_error hd
      omega
  case word =>
    intro i h
    obtain ⟨opcode, -⟩ := fields_of_decodeWord h
    exact ⟨decodeWord_wellFormed h, opcode ▸ and_opcodeMask w⟩
  case error =>
    intro e h
    obtain ⟨-, named⟩ := decodeWord_error h
    exact named

/-- No word with a reserved opcode is a command. -/
theorem decodeWord_reserved {w : Word} (h : ReservedOpcode (w.toNat / 2 ^ 28)) : ∃ e, decodeWord w = .error e := by
  cases hd : decodeWord w with
  | ok i =>
    obtain ⟨opcode, -⟩ := fields_of_decodeWord hd
    have := opcode_range i
    omega
  | error e => exact ⟨e, rfl⟩

/-- Settles O7: the word decodes to an error, and a write of it is no frame work, so no host holds it back. -/
theorem reservedOpcodeOnlySetsErrCmd : Obligations.ReservedOpcodeOnlySetsErrCmd := by
  intro s w rest hp reserved
  obtain ⟨e, hd⟩ := decodeWord_reserved reserved
  calc step s = handle (.regWrite 0 w) (s.setPending rest) :=
        step_event s _ rest hp (heldBack_of_not_frame (isFrameWork_reserved hd) s.loop)
    _ = .next (s.setPending rest).rejectWord := runCommand_error hd _
    _ = .next ((s.setPending rest).setStatus (s.status ||| 2)) := rfl

/-- A word that is the encoder's is read back as its command. -/
theorem decodeWord_of_eq_encode {w : Word} {i : Instr} (hwf : i.WellFormed) (h : w = encode i) :
    decodeWord w = .ok i :=
  h ▸ encodeThenDecodeIsIdentity i hwf

/-- Settles O5: each word written out is the encoder's word of its command. -/
theorem wordsWrittenFromTheFormatsDecode : Obligations.WordsWrittenFromTheFormatsDecode :=
  ⟨decodeWord_of_eq_encode (by decide) (by decide), decodeWord_of_eq_encode (by decide) (by decide),
    decodeWord_of_eq_encode trivial (by decide), decodeWord_of_eq_encode (by decide) (by decide),
    decodeWord_of_eq_encode trivial (by decide), decodeWord_of_eq_encode (by decide) (by decide),
    decodeWord_of_eq_encode trivial (by decide), decodeWord_of_eq_encode trivial (by decide),
    decodeWord_of_eq_encode (by decide) (by decide)⟩

end Sys2Proof.Machine
end

section
/-! PROOFS. SETPAL (30_encoding R90): sixteen staging writes as one fact about any list of them, then LOADPAL
(O44). -/

namespace Sys2Proof.Machine

/-- A host action that writes the staging register of `k`. -/
def stagingWrite (cols : Vector Word 16) (k : Fin 16) : Event := .regWrite (RegName.palstage k).number cols[k]

/-- A run of staging writes leaves each written register with its colour and changes nothing else. -/
theorem steps_stagingWrites (cols : Vector Word 16) (ks : List (Fin 16)) {s : State} {rest : List Event}
    (h : s.pending = ks.map (stagingWrite cols) ++ rest) :
    ∃ p : Vector Word 16, steps ks.length s = .next ((s.setPalstage p).setPending rest) ∧
      ∀ k : Fin 16, p[k] = if k ∈ ks then cols[k] else s.palstage[k] := by
  induction ks generalizing s with
  | nil =>
    obtain rfl : s.pending = rest := h
    exact ⟨s.palstage, rfl, fun k => (if_neg List.not_mem_nil).symm⟩
  | cons j ks ih =>
    have hfirst : step s = .next ((s.setPalstage (s.palstage.set j.val cols[j])).setPending
        (ks.map (stagingWrite cols) ++ rest)) := by
      rw [step_regWrite (by rw [RegName.number]; omega) h, RegName.number, writeReg_palstage]
      rfl
    obtain ⟨p, hsteps, hp⟩ := ih (State.setPending_pending _ _)
    refine ⟨p, (steps_succ ks.length hfirst).trans hsteps, fun k => ?_⟩
    rw [hp k]
    obtain rfl | hk := eq_or_ne k j
    · simp
    · have hval : j.val ≠ k.val := fun e => hk (Fin.ext e.symm)
      simp [hk, hval]

/-- A command that is none of the frame's is executed in every mode of the host. -/
theorem step_command {i : Instr} {s : State} {rest : List Event} (hwf : i.WellFormed) (hframe : ¬FrameCommand i)
    (h : s.pending = command i :: rest) : step s = exec i (s.setPending rest) := by
  obtain ⟨-, runs, -⟩ := stepRunsTheDecodedCommand s _ rest i h (encodeThenDecodeIsIdentity i hwf)
  exact runs (.inr hframe)

/-- LOADPAL replaces PAL by what the staging words stand for, in every mode of the host. -/
theorem step_loadpal {s : State} {rest : List Event} (h : s.pending = command .loadpal :: rest) :
    step s = .next ((s.setPending rest).setPal s.staged) :=
  step_command trivial (by simp [FrameCommand]) h

/-- Settles O44: the sixteen writes leave the staging registers with the colours given, whatever they held, and
LOADPAL, which no host holds back, makes PAL the colours they stand for. -/
theorem setpalInstallsThePalette : Obligations.SetpalInstallsThePalette := by
  intro s cols rest hp
  have hpending : s.pending = (List.finRange 16).map (stagingWrite cols) ++ command .loadpal :: rest := by
    rw [hp, assemble, setPalette, List.append_assoc]
    rfl
  obtain ⟨p, hwrites, hstaged⟩ := steps_stagingWrites cols (List.finRange 16) hpending
  obtain rfl : p = cols :=
    Vector.ext fun k hk => (hstaged ⟨k, hk⟩).trans (if_pos (List.mem_finRange _))
  have hload := step_loadpal (State.setPending_pending (s.setPalstage p) (command .loadpal :: rest))
  refine ⟨_, (steps_add 1 hwrites).trans (steps_succ 0 hload), rfl, fun k => ?_⟩
  rw [State.setPal_pal, staged_get, Colour.toWord_ofWord]
  rfl

end Sys2Proof.Machine
end

section
/-! PROOFS. The Packed Framebuffer commands (40_packed_framebuffer R100 to R107): SETPIX as the replacement of one
pixel of FB (O13), GETPIX as a read of one (O14), the two together (O15, O16), LOADFB (O17), and what the three
commands may write (O18). -/

namespace Sys2Proof.Machine

/-! ### One pixel of FB replaced -/

/-- The state with the colour index of pixel (x, y) in FB replaced by the low 4 bits of `v`. -/
def State.putPixel (s : State) (x y v : Nat) : State :=
  s.setFb (s.fb.set (pixByte s.cfg x y) (pack (s.fbByte (pixByte s.cfg x y)) x (low4 v)))

@[simp] theorem State.putPixel_cfg (s : State) (x y v : Nat) : (s.putPixel x y v).cfg = s.cfg := rfl

@[simp] theorem State.putPixel_fb_length (s : State) (x y v : Nat) :
    (s.putPixel x y v).fb.length = s.fb.length := List.length_set

theorem State.putPixel_changes_only_fb (s : State) (x y v : Nat) :
    s.putPixel x y v = s.setFb (s.putPixel x y v).fb := rfl

theorem fbByte_putPixel_other (s : State) (x y v : Nat) {a : Nat} (h : pixByte s.cfg x y ≠ a) :
    (s.putPixel x y v).fbByte a = s.fbByte a :=
  getD_set_other _ _ h

section
variable {s : State} {x y : Nat} (hlen : s.fb.length = s.cfg.fbBytes) (hx : x < s.cfg.width)
  (hy : y < s.cfg.height)

include hlen hx hy

theorem fbByte_putPixel_same (v : Nat) :
    (s.putPixel x y v).fbByte (pixByte s.cfg x y) = pack (s.fbByte (pixByte s.cfg x y)) x (low4 v) :=
  getD_set_same _ (hlen ▸ pixByte_lt_fbBytes hx hy)

theorem pixel_putPixel_same (v : Nat) : ((s.putPixel x y v).pixel x y).toNat = v % 16 := by
  rw [State.pixel, State.putPixel_cfg, fbByte_putPixel_same hlen hx hy, unpack_pack_same, low4_eq, Nat.mod_mod]

/-- Another pixel lies in another byte, or is the other nibble of the same byte. -/
theorem pixel_putPixel_other (v : Nat) {x' y' : Nat} (hx' : x' < s.cfg.width) (hne : ¬(x' = x ∧ y' = y)) :
    (s.putPixel x y v).pixel x' y' = s.pixel x' y' := by
  rw [State.pixel, State.pixel, State.putPixel_cfg]
  by_cases hbyte : pixByte s.cfg x' y' = pixByte s.cfg x y
  · obtain ⟨hrow, hpair⟩ := (pixByte_eq_iff hx hx' y y').1 hbyte
    have hparity : x' % 2 ≠ x % 2 := by omega
    rw [hbyte, fbByte_putPixel_same hlen hx hy, unpack_pack_other _ _ hparity]
  · rw [fbByte_putPixel_other s x y v (Ne.symm hbyte)]

end

/-! ### The three commands -/

theorem exec_setpix_inside {s : State} {x y : Nat} (hx : x < s.cfg.width) (hy : y < s.cfg.height) (c8 : Nat) :
    exec (.setpix x y c8) s = .next (s.putPixel x y c8) :=
  congrArg Host.Outcome.next (if_pos ((inLogical_iff _ _ _).2 ⟨hx, hy⟩))

theorem exec_getpix_inside {s : State} {x y : Nat} (hx : x < s.cfg.width) (hy : y < s.cfg.height) :
    exec (.getpix x y) s = .next (s.setResult ((s.pixel x y).setWidth 32)) :=
  congrArg Host.Outcome.next (if_pos ((inLogical_iff _ _ _).2 ⟨hx, hy⟩))

theorem exec_getpix_outside {s : State} {x y : Nat} (h : ¬(x < s.cfg.width ∧ y < s.cfg.height)) :
    exec (.getpix x y) s = .next s.reject :=
  congrArg Host.Outcome.next (if_neg fun hin => h ((inLogical_iff _ _ _).1 hin))

theorem exec_loadfb (s : State) : exec .loadfb s = .next (s.setFb s.window) := rfl

/-- What GETPIX puts into RESULT is the pixel's number, zero-extended. -/
theorem pixel_setWidth (s : State) (x y : Nat) :
    (s.pixel x y).setWidth 32 = BitVec.ofNat 32
      (if x % 2 = 0 then (s.fbByte ((y * s.cfg.width + x) / 2)).toNat / 16
       else (s.fbByte ((y * s.cfg.width + x) / 2)).toNat % 16) := by
  rw [← BitVec.ofNat_toNat, State.pixel, unpack_toNat, pixByte]

/-! ### The statements about one command -/

/-- Settles O13: SETPIX is the replacement of one pixel. -/
theorem setpixStoresOnePixel : Obligations.SetpixStoresOnePixel :=
  fun s x y c8 hlen hx hy => ⟨s.putPixel x y c8, exec_setpix_inside hx hy c8, s.putPixel_changes_only_fb x y c8,
    s.putPixel_fb_length x y c8, pixel_putPixel_same hlen hx hy c8,
    fun _ _ hx' _ hne => pixel_putPixel_other hlen hx hy c8 hx' hne,
    fun _ ha => fbByte_putPixel_other s x y c8 ha⟩

/-- Settles O14: the two sides of the bound, and the decoder's opcode 2. -/
theorem getpixReturnsThePixel : Obligations.GetpixReturnsThePixel := by
  refine ⟨fun s x y => ?_, fun w hw => decodeWord_getpix hw⟩
  by_cases hin : x < s.cfg.width ∧ y < s.cfg.height
  · rw [if_neg (by omega), exec_getpix_inside hin.1 hin.2, pixel_setWidth]
  · rw [if_pos (by omega), exec_getpix_outside hin, reject_eq]

/-- Settles O17: FB becomes the window, whose bytes are those of CPU memory from FB_BASE on. -/
theorem loadfbCopiesTheWindow : Obligations.LoadfbCopiesTheWindow :=
  ⟨fun s => ⟨s.setFb s.window, exec_loadfb s, rfl, window_length s, window_get s⟩, fun _ hw => decodeWord_loadfb hw⟩

/-- Settles O18: the outcomes of the three commands are a rejection, a pixel replaced, a pixel read and the window
copied. -/
theorem framebufferCommandsWriteOnlyTheirOwn : Obligations.FramebufferCommandsWriteOnlyTheirOwn := by
  intro s t i hlen h hi
  cases exec_outcome h with
  | rejected => exact ⟨rfl, rfl, fun _ => rfl⟩
  | setpix => exact ⟨rfl, List.length_set, fun _ => rfl⟩
  | getpix x y => exact ⟨rfl, rfl, fun notGetpix => absurd rfl (notGetpix x y)⟩
  | loadfb => exact ⟨rfl, (window_length s).trans hlen.symm, fun _ => rfl⟩
  | colorat | loadpal | uploadfb | uploadpal | decode | vport => simp at hi

/-! ### Pixels read back -/

/-- Settles O15: the pixel replaced reads as the colour set, every other as before. -/
theorem getpixAfterSetpix : Obligations.GetpixAfterSetpix := by
  intro s x y c8 hlen hx hy
  refine ⟨s.putPixel x y c8, _, exec_setpix_inside hx hy c8, exec_getpix_inside hx hy, ?_,
    fun x' y' hx' hy' hne => ⟨_, _, exec_getpix_inside hx' hy', exec_getpix_inside hx' hy', ?_⟩⟩
  · rw [State.setResult_result, ← BitVec.ofNat_toNat, pixel_putPixel_same hlen hx hy, ← low4_eq, low4]
  · rw [State.setResult_result, State.setResult_result, pixel_putPixel_other hlen hx hy c8 hx' hne]

/-- A run of SETPIX in one row leaves each pixel named with its colour, every other pixel of the row as it was, and
changes nothing but FB. -/
theorem execAll_setpix_row (colours : Nat → Nat) {y : Nat} (xs : List Nat) {s : State}
    (hlen : s.fb.length = s.cfg.fbBytes) (hy : y < s.cfg.height) (hxs : ∀ x ∈ xs, x < s.cfg.width) :
    ∃ t, execAll (xs.map fun x => .setpix x y (colours x)) s = .next t ∧ t = s.setFb t.fb ∧
      ∀ x, x < s.cfg.width → (t.pixel x y).toNat = if x ∈ xs then colours x % 16 else (s.pixel x y).toNat := by
  induction xs generalizing s with
  | nil => exact ⟨s, rfl, rfl, fun x _ => (if_neg List.not_mem_nil).symm⟩
  | cons j xs ih =>
    obtain ⟨hj, hxs⟩ := List.forall_mem_cons.1 hxs
    obtain ⟨t, hrun, honly, hrow⟩ := ih (s := s.putPixel j y (colours j)) (by simpa using hlen) hy hxs
    refine ⟨t, (execAll_cons _ (exec_setpix_inside hj hy _)).trans hrun, honly, fun x hx => ?_⟩
    rw [hrow x hx]
    obtain rfl | hne := eq_or_ne x j
    · simp [pixel_putPixel_same hlen hx hy]
    · simp [hne, pixel_putPixel_other hlen hj hy _ hx fun hsame => hne hsame.1]

/-- Settles O16: the columns written are all of them. -/
theorem scanlineRoundTrip : Obligations.ScanlineRoundTrip := by
  intro s y colours hlen hy
  obtain ⟨t, hrun, honly, hrow⟩ := execAll_setpix_row colours (List.range s.cfg.width) hlen hy
    fun _ => List.mem_range.1
  have hcfg : t.cfg = s.cfg := by rw [honly, State.setFb_cfg]
  refine ⟨t, hrun, honly, fun x hx => ⟨_, exec_getpix_inside (hcfg ▸ hx) (hcfg ▸ hy), ?_⟩⟩
  rw [State.setResult_result, BitVec.toNat_setWidth_of_le (by decide), hrow x hx, if_pos (List.mem_range.2 hx)]

end Sys2Proof.Machine
end

section
/-! PROOFS. The Palette Table commands (41_palette_table R120 to R122): COLORAT as the read of one entry (O20) and
LOADPAL as the replacement of all sixteen (O21). -/

namespace Sys2Proof.Machine

/-! ### The two commands -/

/-- The entry an operand names is the one of its remainder by 16. -/
theorem paletteIndex_eq {v : Nat} {k : Fin 16} (h : k.val = v % 16) : paletteIndex v = k :=
  Fin.ext ((paletteIndex_val v).trans h.symm)

theorem exec_colorat (s : State) (idx8 : Nat) :
    exec (.colorat idx8) s = .next (s.setResult (s.pal[paletteIndex idx8]).toWord) := rfl

theorem exec_loadpal (s : State) : exec .loadpal s = .next (s.setPal s.staged) := rfl

/-- The colour a staging register stands for has that register's word. -/
theorem staged_get_toWord (s : State) (k : Fin 16) : s.staged[k].toWord = s.palstage[k] := by
  rw [staged_get, Colour.toWord_ofWord]

/-! ### The statements -/

/-- Settles O20: the entry read is the one the operand names, and the words are the decoder's opcode 4. -/
theorem coloratReturnsThePaletteEntry : Obligations.ColoratReturnsThePaletteEntry := by
  refine ⟨fun s idx8 k hk => ?_, fun w hw => decodeWord_colorat hw⟩
  obtain rfl := paletteIndex_eq hk
  exact exec_colorat s idx8

/-- Settles O21: PAL becomes the colours the staging registers stand for, and the words are the decoder's
opcode 5. -/
theorem loadpalReplacesTheWholeTable : Obligations.LoadpalReplacesTheWholeTable :=
  ⟨fun s => ⟨s.setPal s.staged, exec_loadpal s, rfl, staged_get_toWord s⟩, fun _ hw => decodeWord_loadpal hw⟩

end Sys2Proof.Machine
end

section
/-! PROOFS. The framebuffer-to-texture pipeline (42_texture_pipeline R131, R133): UPLOADFB as the replacement of a
range of rows of FBTEX (O22), all rows of it as the decoder sees them (O23), and UPLOADPAL (O24). -/

namespace Sys2Proof.Machine

/-! ### The rows of FBTEX replaced -/

/-- The state with the `n` rows of FBTEX from `y0` on replaced by those of FB. -/
def State.putRows (s : State) (y0 n : Nat) : State :=
  s.setFbtex (s.fbtex.mapIdx fun r row => if y0 ≤ r ∧ r < y0 + n then s.fbRow r else row)

theorem State.putRows_changes_only_fbtex (s : State) (y0 n : Nat) :
    s.putRows y0 n = s.setFbtex (s.putRows y0 n).fbtex := rfl

@[simp] theorem State.putRows_fbtex_length (s : State) (y0 n : Nat) :
    (s.putRows y0 n).fbtex.length = s.fbtex.length := List.length_mapIdx

/-- Row by row: a row there is becomes FB's if it is in the range, and stays otherwise. -/
theorem putRows_row (s : State) (y0 n r : Nat) :
    (s.putRows y0 n).fbtex[r]? =
      s.fbtex[r]?.map fun row => if y0 ≤ r ∧ r < y0 + n then s.fbRow r else row :=
  List.getElem?_mapIdx

theorem putRows_row_inside {s : State} {y0 n r : Nat} (hr : r < s.fbtex.length) (h : y0 ≤ r ∧ r < y0 + n) :
    (s.putRows y0 n).fbtex[r]? = some (s.fbRow r) := by
  rw [putRows_row, List.getElem?_eq_getElem hr, Option.map_some, if_pos h]

theorem putRows_row_outside {s : State} {y0 n r : Nat} (h : ¬(y0 ≤ r ∧ r < y0 + n)) :
    (s.putRows y0 n).fbtex[r]? = s.fbtex[r]? := by
  simp only [putRows_row, if_neg h, Option.map_id']

/-! ### What the decoder reads in a row that is FB's -/

section
variable {s t : State} {r : Nat} (hrow : t.fbtex[r]? = some (s.fbRow r))

include hrow

theorem texel_of_fbRow {k : Nat} (hk : k < s.cfg.width / 2) :
    t.texel r k = s.fbByte (r * (s.cfg.width / 2) + k) := by
  have hget : t.fbtex.getD r [] = s.fbRow r := by rw [List.getD_eq_getElem?_getD, hrow, Option.getD_some]
  rw [State.texel, hget]
  exact fbRow_getD s r k hk

/-- Both stores hold a pixel in the same byte of its row and in the same nibble of that byte. -/
theorem texIndex_of_fbRow {x : Nat} (hx : x < s.cfg.width) : t.texIndex x r = s.pixel x r := by
  rw [State.texIndex, State.pixel, texel_of_fbRow hrow (half_lt_rowBytes hx), pixByte_eq]

end

/-! ### The two commands -/

theorem exec_uploadfb_inside {s : State} {y0 n : Nat} (h : y0 + n ≤ s.cfg.height) :
    exec (.uploadfb y0 n) s = .next (s.putRows y0 n) :=
  congrArg Host.Outcome.next (if_neg (Nat.not_lt_of_le h))

/-- UPLOADFB.ALL never leaves the texture. -/
theorem exec_uploadAll (s : State) : exec (uploadAll s.cfg) s = .next (s.putRows 0 s.cfg.height) :=
  exec_uploadfb_inside (Nat.zero_add _).le

theorem exec_uploadpal (s : State) : exec .uploadpal s = .next (s.setPaltex s.pal) := rfl

/-! ### The statements -/

/-- Settles O22: the rows in the range become FB's, and every other row stays. -/
theorem uploadfbCopiesRows : Obligations.UploadfbCopiesRows := by
  intro s y0 n hlen hin
  refine ⟨s.putRows y0 n, exec_uploadfb_inside hin, s.putRows_changes_only_fbtex y0 n, s.putRows_fbtex_length y0 n,
    fun r k hlow hhigh hk => ?_, fun r hout => putRows_row_outside hout⟩
  have hr : r < s.fbtex.length := by omega
  exact texel_of_fbRow (putRows_row_inside hr ⟨hlow, hhigh⟩) hk

/-- Settles O23: every row of FBTEX is in the range, so the decoder reads FB's rows. -/
theorem uploadAllShowsTheFramebuffer : Obligations.UploadAllShowsTheFramebuffer := by
  intro s hlen
  refine ⟨s.putRows 0 s.cfg.height, exec_uploadAll s, s.putRows_changes_only_fbtex 0 _, fun x y hx hy => ?_⟩
  have hrow : (s.putRows 0 s.cfg.height).fbtex[y]? = some (s.fbRow y) :=
    putRows_row_inside (hlen ▸ hy) ⟨Nat.zero_le y, (Nat.zero_add _).symm ▸ hy⟩
  exact texIndex_of_fbRow hrow hx

/-- Settles O24: PALTEX becomes PAL, and the words are the decoder's opcode 7. -/
theorem uploadpalCopiesThePalette : Obligations.UploadpalCopiesThePalette :=
  ⟨exec_uploadpal, fun _ hw => decodeWord_uploadpal hw⟩

end Sys2Proof.Machine
end

section
/-! PROOFS. The stages of the Display Decoder (43_display_decoder R144, R146, R150 to R152), one operation after the
other: the warp (O29), the cell (O30), the darkening fraction (O31) and the darkened colour (O32). -/

namespace Sys2Proof.Machine

/-! ### The warp -/

/-- The factor by which one coordinate is pushed from the centre, the other coordinate being `o`. -/
def warpFactor (k wp o : ℚ) : ℚ := 1 + (1 / 2 - o) ^ 2 * k * wp

theorem warpCoord_sub_half (k wp t o : ℚ) : warpCoord k wp t o - 1 / 2 = (t - 1 / 2) * warpFactor k wp o :=
  add_sub_cancel_right _ _

/-- At strength 0 the warp moves nothing. -/
@[simp] theorem warpCoord_zero (k t o : ℚ) : warpCoord k 0 t o = t := by
  rw [warpCoord]; ring

theorem warpCoord_half (k wp o : ℚ) : warpCoord k wp (1 / 2) o = 1 / 2 := by
  rw [warpCoord]; ring

theorem warpCoord_centreLine (k wp t : ℚ) : warpCoord k wp t (1 / 2) = t := by
  rw [warpCoord]; ring

section
variable {k wp o : ℚ} (hk : 0 ≤ k) (hwp : 0 ≤ wp)

include hk hwp

theorem one_le_warpFactor : 1 ≤ warpFactor k wp o :=
  le_add_of_nonneg_right (by positivity)

/-- No coordinate of [0, 1] is further than 1/2 from the centre. -/
theorem warpFactor_le (h0 : 0 ≤ o) (h1 : o ≤ 1) : warpFactor k wp o ≤ 1 + k / 4 * wp := by
  have hsq : (1 / 2 - o) ^ 2 ≤ 1 / 4 := by nlinarith
  have hkwp : 0 ≤ k * wp := mul_nonneg hk hwp
  calc warpFactor k wp o = 1 + (1 / 2 - o) ^ 2 * (k * wp) := by rw [warpFactor, mul_assoc]
    _ ≤ 1 + 1 / 4 * (k * wp) := by gcongr
    _ = 1 + k / 4 * wp := by ring

end

/-- Settles O29: the distance from the centre is multiplied by a factor between 1 and `1 + k / 4 * wp`. -/
theorem warpPushesAwayFromTheCentre : Obligations.WarpPushesAwayFromTheCentre := by
  intro k wp t o hk hwp h0 h1
  have hone : 1 ≤ warpFactor k wp o := one_le_warpFactor hk hwp
  have hpos : 0 ≤ warpFactor k wp o := zero_le_one.trans hone
  refine ⟨warpCoord_zero k t o, warpCoord_half k wp o, warpCoord_centreLine k wp t, ?_⟩
  rw [warpCoord_sub_half, abs_mul, abs_of_nonneg hpos]
  refine ⟨le_mul_of_one_le_right (abs_nonneg _) hone, ?_, ?_⟩
  · rw [mul_comm]
    exact mul_le_mul_of_nonneg_right (warpFactor_le hk hwp h0 h1) (abs_nonneg _)
  · rw [mul_right_comm]
    exact mul_nonneg (mul_self_nonneg _) hpos

/-! ### The cell -/

theorem cellOf_lt {size : Nat} (hs : 1 ≤ size) (t : ℚ) : cellOf size t < size :=
  (Nat.min_le_right _ _).trans_lt (Nat.sub_lt hs Nat.one_pos)

/-- The closing edge belongs to the last cell. -/
theorem cellOf_one (size : Nat) : cellOf size 1 = size - 1 := by
  rw [cellOf, one_mul, Int.floor_natCast, Int.toNat_natCast]
  exact Nat.min_eq_right (Nat.sub_le _ _)

theorem cellOf_eq_iff {size : Nat} {t : ℚ} (hs : 1 ≤ size) (h0 : 0 ≤ t) (h1 : t < 1) (j : Nat) :
    cellOf size t = j ↔ (j : ℚ) / size ≤ t ∧ t < ((j : ℚ) + 1) / size := by
  have hsize : (0 : ℚ) < size := Nat.cast_pos.2 hs
  calc cellOf size t = j ↔ ⌊t * (size : ℚ)⌋ = (j : ℤ) := by rw [← cellOf_eq_floor hs h0 h1, Nat.cast_inj]
    _ ↔ (j : ℚ) ≤ t * size ∧ t * size < (j : ℚ) + 1 := by rw [Int.floor_eq_iff, Int.cast_natCast]
    _ ↔ (j : ℚ) / size ≤ t ∧ t < ((j : ℚ) + 1) / size := by rw [div_le_iff₀ hsize, lt_div_iff₀ hsize]

/-- Settles O30: below 1 the cell is a floor, and at 1 the clamp gives the last one. -/
theorem nearestCellContainsTheCoordinate : Obligations.NearestCellContainsTheCoordinate :=
  fun size t hs h0 _ => ⟨cellOf_lt hs t, fun h => h ▸ cellOf_one size, fun hlt => cellOf_eq_iff hs h0 hlt⟩

/-! ### The darkening fraction -/

theorem scanWave_bounds (c : Cfg) (py : Nat) : 0 ≤ scanWave c py ∧ scanWave c py ≤ 1 := by
  obtain ⟨-, hwave⟩ := c.wave_bounds
  exact hwave _ (scanWave_mem c py)

theorem darkening_bounds (c : Cfg) {scan : BitVec 9} (h : scan.toNat ≤ 256) (py : Nat) :
    0 ≤ darkening c scan py ∧ darkening c scan py ≤ c.kScan := by
  obtain ⟨hk, -⟩ := c.kScan_bounds
  obtain ⟨hs0, hs1⟩ := strength_bounds h
  obtain ⟨hw0, hw1⟩ := scanWave_bounds c py
  refine ⟨mul_nonneg (mul_nonneg hk hs0) hw0, ?_⟩
  calc c.kScan * strength scan * scanWave c py ≤ c.kScan * strength scan :=
        mul_le_of_le_one_right (mul_nonneg hk hs0) hw1
    _ ≤ c.kScan := mul_le_of_le_one_right hk hs1

/-- The strength a register holding 0 stands for. -/
theorem strength_zero : strength 0 = 0 := by
  simp [strength]

theorem darkening_zero (c : Cfg) (py : Nat) : darkening c 0 py = 0 := by
  rw [darkening, strength_zero, mul_zero, zero_mul]

/-- Settles O31: K_SCAN times two factors of [0, 1], the second of which is an entry of the configured wave. -/
theorem darkeningFractionIsBounded : Obligations.DarkeningFractionIsBounded := by
  intro c scan py h
  obtain ⟨hd0, hd1⟩ := darkening_bounds c h py
  obtain ⟨hw0, hw1⟩ := scanWave_bounds c py
  exact ⟨hd0, hd1, c.kScan_bounds.2, darkening_zero c py, hw0, hw1, fun _ hi => scanWave_first_period c hi,
    List.length_pos_of_ne_nil c.wave_bounds.1, scanWave_periodic c⟩

/-! ### The darkened colour -/

/-- The quantiser's value is the nearest natural, halves upward. -/
theorem quantise_nearest {z : ℚ} (h0 : 0 ≤ z) (h1 : z ≤ 255) :
    ((quantise z).toNat : ℚ) - 1 / 2 ≤ z ∧ z < ((quantise z).toNat : ℚ) + 1 / 2 := by
  obtain ⟨hle, hlt⟩ := Int.floor_eq_iff.1 (quantise_toNat h0 h1).symm
  rw [Int.cast_natCast] at hle hlt
  exact ⟨by linarith, by linarith⟩

section
variable (v : BitVec 8) {a : ℚ} (h0 : 0 ≤ a) (h1 : a ≤ 1)

include h0

theorem mul_one_sub_le : (v.toNat : ℚ) * (1 - a) ≤ v.toNat :=
  mul_le_of_le_one_right (Nat.cast_nonneg _) (sub_le_self 1 h0)

include h1

theorem darkenChannel_nearest :
    ((darkenChannel v a).toNat : ℚ) - 1 / 2 ≤ (v.toNat : ℚ) * (1 - a) ∧
      (v.toNat : ℚ) * (1 - a) < ((darkenChannel v a).toNat : ℚ) + 1 / 2 := by
  have hv : (v.toNat : ℚ) ≤ 255 := Nat.cast_le_ofNat.2 (Nat.le_of_lt_succ v.isLt)
  exact quantise_nearest (mul_nonneg (Nat.cast_nonneg _) (sub_nonneg.2 h1)) ((mul_one_sub_le v h0).trans hv)

/-- Rounding halves upward does not reach the next natural above the channel. -/
theorem darkenChannel_le : (darkenChannel v a).toNat ≤ v.toNat := by
  obtain ⟨hle, -⟩ := darkenChannel_nearest v h0 h1
  have hlt : ((darkenChannel v a).toNat : ℚ) < (v.toNat : ℚ) + 1 := by
    linarith only [hle, mul_one_sub_le v h0]
  exact Nat.le_of_lt_succ (by exact_mod_cast hlt)

end

/-- A natural number is its own nearest natural. -/
@[simp] theorem darkenChannel_zero (v : BitVec 8) : darkenChannel v 0 = v := by
  obtain ⟨-, hlt⟩ := darkenChannel_nearest v le_rfl zero_le_one
  have hlt' : (v.toNat : ℚ) < ((darkenChannel v 0).toNat : ℚ) + 1 := by linarith only [hlt]
  refine BitVec.eq_of_toNat_eq (le_antisymm (darkenChannel_le v le_rfl zero_le_one) ?_)
  exact Nat.le_of_lt_succ (by exact_mod_cast hlt')

@[simp] theorem darken_zero (col : Colour) : darken col 0 = col := by
  simp only [darken, darkenChannel_zero]

/-- Settles O32: each channel is quantised on its own. -/
theorem darkenedColourIsNearestAndNeverBrighter : Obligations.DarkenedColourIsNearestAndNeverBrighter := by
  intro col a h0 h1
  refine ⟨fun v => ?_, rfl, darken_zero col⟩
  obtain ⟨hle, hlt⟩ := darkenChannel_nearest v h0 h1
  exact ⟨hle, hlt, darkenChannel_le v h0 h1⟩

end Sys2Proof.Machine
end

section
/-! PROOFS. DECODE (43_display_decoder R141, R153, R154): DecodePixel on the border and in the picture (O26), the
frame presented (O25), and a second frame of the same state (O33). -/

namespace Sys2Proof.Machine

/-! ### One pixel -/

/-- A pixel's entry in PALTEX is the one with its colour index for a number. -/
theorem texColour_of_texIndex {s : State} {lx ly : Nat} {k : Fin 16} (h : k.val = (s.texIndex lx ly).toNat) :
    s.texColour lx ly = s.paltex[k] := by
  obtain rfl : paletteIndex (s.texIndex lx ly).toNat = k := paletteIndex_eq (by omega)
  rfl

theorem shade_border {s : State} {u v : ℚ} (h : u < 0 ∨ 1 < u ∨ v < 0 ∨ 1 < v) (py : Nat) :
    s.shade py u v = Colour.black := by
  refine if_neg fun ⟨⟨hu0, hu1⟩, hv0, hv1⟩ => ?_
  obtain h | h | h | h := h
  · exact h.not_ge hu0
  · exact h.not_ge hu1
  · exact h.not_ge hv0
  · exact h.not_ge hv1

theorem shade_picture {s : State} {u v : ℚ} (h : InPicture u v) (py : Nat) :
    s.shade py u v =
      darken (s.texColour (cellOf s.cfg.width u) (cellOf s.cfg.height v)) (darkening s.cfg s.scan py) :=
  if_pos h

/-- Settles O26: the two sides of the border test, with the colour index as a nibble of the texel. -/
theorem decodePixelIsTheWholeFunction : Obligations.DecodePixelIsTheWholeFunction := by
  rintro s px py u v u' v' a rfl rfl rfl rfl rfl
  refine ⟨fun border => shade_border border py, fun lx ly k hu0 hu1 hv0 hv1 hlx hly hk => ?_⟩
  have hcolour : s.texColour lx ly = s.paltex[k] := texColour_of_texIndex (hk.trans (unpack_toNat _ lx).symm)
  subst hlx hly
  exact (shade_picture ⟨⟨hu0, hu1⟩, hv0, hv1⟩ py).trans (congrArg (darken · _) hcolour)

/-! ### The frame -/

/-- The state after a DECODE. -/
def State.afterDecode (s : State) : State :=
  ((s.setSurf s.decodedFrame).setPresented (s.presented ++ [s.decodedFrame])).setDraws (s.draws + 1)

theorem exec_decode (s : State) : exec .decode s = .next s.afterDecode := rfl

/-- DECODE leaves its own inputs as they are. -/
theorem afterDecode_sameInputs (s : State) : SameDecoderInputs s s.afterDecode :=
  ⟨rfl, rfl, rfl, rfl, rfl, rfl, rfl, rfl⟩

/-- What the surface shows after a DECODE at a covered pixel of it. -/
theorem colourAt_afterDecode {s : State} {px py : Nat} (hx : px < s.surfW) (hy : py < s.surfH)
    (h : Covered s.vp px py) : Frame.colourAt s.afterDecode.surf px py = some (s.decodePixel px py) :=
  (colourAt_decodedFrame h).trans (if_pos ⟨hx, hy⟩)

/-- Settles O25: the surface and the history get the decoded frame, and nothing else changes. -/
theorem decodePresentsTheDecodedFrame : Obligations.DecodePresentsTheDecodedFrame := by
  intro s
  obtain ⟨hrows, hcolumns⟩ := decodedFrame_shape s
  exact ⟨s.afterDecode, exec_decode s, rfl, hrows, hcolumns, fun _ _ => colourAt_afterDecode⟩

/-- Settles O33: the second DECODE reads the inputs the first one read, and a covered pixel shows nothing else. -/
theorem decodingTwiceShowsTheSame : Obligations.DecodingTwiceShowsTheSame :=
  fun s => ⟨s.afterDecode, s.afterDecode.afterDecode, exec_decode s, exec_decode _, List.append_assoc _ _ _,
    decodeSeesOnlyItsInputs _ _ _ _ (afterDecode_sameInputs s) (exec_decode s) (exec_decode _)⟩

end Sys2Proof.Machine
end

section
/-! PROOFS. The filter off (43_display_decoder R155): a covered pixel as a lookup of its cell (O27), the cells as
square blocks under the integer policy (O28), and the whole path from CPU memory to the surface (O60). -/

namespace Sys2Proof.Machine

/-! ### The lookup -/

/-- With WARP = 0 and SCAN = 0 neither the coordinates nor the colour move. -/
theorem decodePixel_filterOff {s : State} {px py : Nat} (hwarp : s.warp = 0) (hscan : s.scan = 0)
    (h : Covered s.vp px py) :
    s.decodePixel px py =
      s.texColour (cellOf s.cfg.width (normU s.vp px)) (cellOf s.cfg.height (normV s.vp py)) := by
  obtain ⟨⟨hu0, hu1⟩, ⟨hv0, hv1⟩, -, -⟩ := covered_norm h
  rw [State.decodePixel, hwarp, strength_zero, warpU, warpV, warpCoord_zero, warpCoord_zero,
    shade_picture ⟨⟨hu0, hu1.le⟩, hv0, hv1.le⟩, hscan, darkening_zero, darken_zero]

theorem one_le_width (c : Cfg) : 1 ≤ c.width := one_le_two.trans c.width_bounds.1

/-- The cells of a covered pixel are the floors of its coordinates. -/
theorem cells_of_floors {s : State} {px py lx ly : Nat} (h : Covered s.vp px py)
    (hlx : (lx : ℤ) = ⌊normU s.vp px * (s.cfg.width : ℚ)⌋) (hly : (ly : ℤ) = ⌊normV s.vp py * (s.cfg.height : ℚ)⌋) :
    cellOf s.cfg.width (normU s.vp px) = lx ∧ cellOf s.cfg.height (normV s.vp py) = ly := by
  obtain ⟨⟨hu0, hu1⟩, ⟨hv0, hv1⟩, -, -⟩ := covered_norm h
  rw [← cellOf_eq_floor (one_le_width s.cfg) hu0 hu1, Nat.cast_inj] at hlx
  rw [← cellOf_eq_floor s.cfg.height_bounds.1 hv0 hv1, Nat.cast_inj] at hly
  exact ⟨hlx.symm, hly.symm⟩

/-- Settles O27: the floors are the cells, and the cells are looked up. -/
theorem filterOffIsAPureLookup : Obligations.FilterOffIsAPureLookup := by
  intro s px py lx ly hwarp hscan covered hlx hly
  obtain ⟨rfl, rfl⟩ := cells_of_floors covered hlx hly
  exact decodePixel_filterOff hwarp hscan covered

/-! ### The blocks of the integer policy, along one axis -/

/-- The centre of a pixel is a half, so half a pixel more at the left edge makes no difference. -/
theorem half_add_le_centreOf (d a px : Nat) : (d : ℚ) / 2 + a ≤ centreOf px ↔ d / 2 + a ≤ px := by
  have hdouble : (d : ℚ) / 2 + a ≤ centreOf px ↔ (d : ℚ) + 2 * a ≤ 2 * px + 1 := by
    rw [centreOf]
    constructor <;> intro h <;> linarith
  calc (d : ℚ) / 2 + a ≤ centreOf px ↔ d + 2 * a ≤ 2 * px + 1 := by rw [hdouble]; exact_mod_cast Iff.rfl
    _ ↔ d / 2 + a ≤ px := by omega

theorem centreOf_lt_half_add (d a px : Nat) : centreOf px < (d : ℚ) / 2 + a ↔ px < d / 2 + a := by
  rw [← not_le, half_add_le_centreOf, not_le]

/-- Of an axis of `size` cells, `k` pixels to the cell, that begins at `e`, cell `x` is the `k` pixels from
`e + k * x` on. -/
theorem cellOf_scaled_iff {size k x : Nat} {e c : ℚ} (hk : 1 ≤ k) (hx : x < size) :
    ((e ≤ c ∧ c < e + k * size) ∧ cellOf size ((c - e) / (k * size)) = x) ↔
      e + (k * x : ℕ) ≤ c ∧ c < e + (k * x + k : ℕ) := by
  have hk' : (0 : ℚ) < k := Nat.cast_pos.2 hk
  have hsize : (0 : ℚ) < size := Nat.cast_pos.2 (Nat.zero_lt_of_lt hx)
  have hspan : (0 : ℚ) < k * size := mul_pos hk' hsize
  have hcell (h : e ≤ c ∧ c < e + k * size) : cellOf size ((c - e) / (k * size)) = x ↔
      e + (k * x : ℕ) ≤ c ∧ c < e + (k * x + k : ℕ) := by
    have h0 : 0 ≤ (c - e) / (k * size) := div_nonneg (by linarith) hspan.le
    have h1 : (c - e) / (k * size) < 1 := (div_lt_one hspan).2 (by linarith)
    rw [cellOf_eq_iff (Nat.one_le_of_lt hx) h0 h1, ← div_div, div_le_div_iff_of_pos_right hsize,
      div_lt_div_iff_of_pos_right hsize, le_div_iff₀ hk', div_lt_iff₀ hk', le_sub_iff_add_le', sub_lt_iff_lt_add',
      add_one_mul, mul_comm (x : ℚ), Nat.cast_add, Nat.cast_mul]
  have hinside (h : e + (k * x : ℕ) ≤ c ∧ c < e + (k * x + k : ℕ)) : e ≤ c ∧ c < e + k * size := by
    have hlast : ((k * x + k : ℕ) : ℚ) ≤ k * size := by exact_mod_cast Nat.mul_le_mul_left k hx
    have hfirst : (0 : ℚ) ≤ (k * x : ℕ) := Nat.cast_nonneg _
    exact ⟨by linarith, by linarith⟩
  exact ⟨fun ⟨h, hc⟩ => (hcell h).1 hc, fun h => ⟨hinside h, (hcell (hinside h)).2 h⟩⟩

/-- Along one axis: pixel `p` is in the picture and in cell `x` exactly when it is one of the block's `k` pixels. -/
theorem cellOf_centred_iff {W size k x : Nat} (p : Nat) (hk : 1 ≤ k) (hfit : k * size ≤ W) (hx : x < size) :
    ((((W : ℚ) - k * size) / 2 ≤ centreOf p ∧ centreOf p < ((W : ℚ) - k * size) / 2 + k * size) ∧
        cellOf size ((centreOf p - ((W : ℚ) - k * size) / 2) / (k * size)) = x) ↔
      (W - k * size) / 2 + k * x ≤ p ∧ p < (W - k * size) / 2 + k * x + k := by
  have hmargin : (W : ℚ) - k * size = (W - k * size : ℕ) := by rw [Nat.cast_sub hfit, Nat.cast_mul]
  rw [cellOf_scaled_iff hk hx, hmargin, half_add_le_centreOf, centreOf_lt_half_add, ← Nat.add_assoc]

/-! ### The blocks of the integer policy, on the surface -/

/-- The pixels of logical pixel (x, y) in a centred picture of scale `k` are those of a square block. -/
theorem covered_cells_centred_iff {W H w h k x y : Nat} (px py : Nat) (hk : 1 ≤ k) (hW : k * w ≤ W) (hH : k * h ≤ H)
    (hx : x < w) (hy : y < h) :
    (Covered (centred W H (k * w) (k * h)) px py ∧ cellOf w (normU (centred W H (k * w) (k * h)) px) = x ∧
        cellOf h (normV (centred W H (k * w) (k * h)) py) = y) ↔
      ((W - k * w) / 2 + k * x ≤ px ∧ px < (W - k * w) / 2 + k * x + k) ∧
        ((H - k * h) / 2 + k * y ≤ py ∧ py < (H - k * h) / 2 + k * y + k) :=
  and_and_and_comm.trans (and_congr (cellOf_centred_iff px hk hW hx) (cellOf_centred_iff py hk hH hy))

/-- A block's last pixel lies inside the surface. -/
theorem block_inside {W size k x p : Nat} (hfit : k * size ≤ W) (hx : x < size)
    (hp : p < (W - k * size) / 2 + k * x + k) : p < W := by
  have hlast : k * x + k ≤ k * size := Nat.mul_le_mul_left k hx
  omega

section
variable {c : Cfg} {W H k : Nat} (hscale : k = min (W / c.width) (H / c.height)) (hk : 1 ≤ k)

include hscale

/-- A picture of the fitting whole scale lies inside the surface. -/
theorem scaled_size_le : k * c.width ≤ W ∧ k * c.height ≤ H := by
  have hw : k ≤ W / c.width := hscale ▸ Nat.min_le_left _ _
  have hh : k ≤ H / c.height := hscale ▸ Nat.min_le_right _ _
  exact ⟨(Nat.le_div_iff_mul_le (one_le_width c)).1 hw, (Nat.le_div_iff_mul_le c.height_bounds.1).1 hh⟩

include hk

theorem viewport_integer (hpolicy : c.policy = .integer) :
    viewport c W H = centred W H (k * c.width) (k * c.height) := by
  obtain ⟨hw, hh⟩ := scaled_size_le hscale
  have hW : 0 < W := (Nat.mul_pos hk (one_le_width c)).trans_le hw
  have hH : 0 < H := (Nat.mul_pos hk c.height_bounds.1).trans_le hh
  have hone : (1 : ℚ) ≤ k := Nat.one_le_cast.2 hk
  have hscaleOf : scaleOf c W H = k := by
    simp only [scaleOf, hpolicy, floor_fitScale, ← hscale, Int.cast_natCast, max_eq_right hone]
  rw [viewport, if_neg (by omega), hscaleOf]

end

/-- Settles O28: on either axis the pixels of a cell are those of a block, and with the filter off each pixel is a
lookup of its cell. -/
theorem integerScaleFillsSquareBlocks : Obligations.IntegerScaleFillsSquareBlocks := by
  intro s k x y px py hpolicy hk hscale hvp hx hy
  obtain ⟨hfitW, hfitH⟩ := scaled_size_le hscale
  have hcells := covered_cells_centred_iff px py hk hfitW hfitH hx hy
  rw [← viewport_integer hscale hk hpolicy, ← hvp] at hcells
  refine ⟨hcells, fun hwarp hscan hx0 hx1 hy0 hy1 => ?_⟩
  obtain ⟨covered, hcx, hcy⟩ := hcells.2 ⟨⟨hx0, hx1⟩, hy0, hy1⟩
  refine ⟨block_inside hfitW hx hx1, block_inside hfitH hy hy1, ?_⟩
  rw [decodePixel_filterOff hwarp hscan covered, hcx, hcy]

/-! ### The commands of FRAME before DECODE -/

/-- The state that FRAME's DECODE decodes: FB is the window, and both textures are uploaded whole. -/
def State.uploaded (s : State) : State := ((s.setFb s.window).putRows 0 s.cfg.height).setPaltex s.pal

theorem execAll_frameCommands (s : State) :
    execAll (frameCommands s.cfg) s = .next s.uploaded.afterDecode :=
  calc execAll (frameCommands s.cfg) s
      = execAll [uploadAll s.cfg, .uploadpal, .decode] (s.setFb s.window) := execAll_cons _ (exec_loadfb s)
    _ = execAll [.uploadpal, .decode] ((s.setFb s.window).putRows 0 s.cfg.height) :=
        execAll_cons _ (exec_uploadAll (s.setFb s.window))
    _ = execAll [.decode] s.uploaded := execAll_cons _ (exec_uploadpal _)
    _ = .next s.uploaded.afterDecode := execAll_cons _ (exec_decode _)

/-- A pixel of FB, once FB is the window, is the CPU's nibble. -/
theorem pixel_window {s : State} {x y : Nat} (hx : x < s.cfg.width) (hy : y < s.cfg.height) :
    (s.setFb s.window).pixel x y = unpack (s.cpuMem.read (s.cfg.fbBase + (y * s.cfg.width + x) / 2)) x := by
  have hget : s.window.getD (pixByte s.cfg x y) 0 = s.memRead (s.cfg.fbBase + pixByte s.cfg x y) := by
    rw [List.getD_eq_getElem?_getD, window_get s _ (pixByte_lt_fbBytes hx hy), Option.getD_some]
  exact congrArg (unpack · x) hget

/-- What the decoder reads of a logical pixel after the uploads is the CPU's nibble. -/
theorem texIndex_uploaded {s : State} {x y : Nat} (hlen : s.fbtex.length = s.cfg.height) (hx : x < s.cfg.width)
    (hy : y < s.cfg.height) :
    s.uploaded.texIndex x y = unpack (s.cpuMem.read (s.cfg.fbBase + (y * s.cfg.width + x) / 2)) x := by
  have hrow : s.uploaded.fbtex[y]? = some ((s.setFb s.window).fbRow y) :=
    putRows_row_inside (s := s.setFb s.window) (hlen ▸ hy) ⟨Nat.zero_le y, (Nat.zero_add _).symm ▸ hy⟩
  exact (texIndex_of_fbRow hrow hx).trans (pixel_window hx hy)

/-- Settles O60: FRAME's DECODE looks up the CPU's nibble in PALTEX, which is PAL. -/
theorem frameEndToEndWithTheFilterOff : Obligations.FrameEndToEndWithTheFilterOff := by
  intro s px py lx ly k hlen hwarp hscan hpx hpy covered hlx hly hk
  obtain ⟨hcx, hcy⟩ := cells_of_floors covered hlx hly
  have hx : lx < s.cfg.width := hcx ▸ cellOf_lt (one_le_width s.cfg) _
  have hy : ly < s.cfg.height := hcy ▸ cellOf_lt s.cfg.height_bounds.1 _
  have hpixel : s.uploaded.decodePixel px py = s.uploaded.texColour lx ly :=
    filterOffIsAPureLookup s.uploaded px py lx ly hwarp hscan covered hlx hly
  have hcolour : s.uploaded.texColour lx ly = s.pal[k] :=
    texColour_of_texIndex (hk.trans (congrArg BitVec.toNat (texIndex_uploaded hlen hx hy).symm))
  refine ⟨_, execAll_frameCommands s, ?_⟩
  rw [colourAt_afterDecode (s := s.uploaded) hpx hpy covered, hpixel, hcolour]

end Sys2Proof.Machine
end

section
/-! PROOFS. The Viewport Mapper (44_viewport_mapper R171 to R175): the scale of each policy, the rectangle of an empty
window (O39), the continuous and the integer rectangle (O37, O38), where they agree (O40), and VPORT (O36). -/

namespace Sys2Proof.Machine

/-! ### The scale -/

section
variable (c : Cfg) (W H : Nat)

/-- A scale is at most the fitting one exactly when the logical rectangle it multiplies fits the window. -/
theorem le_fitScale_iff (q : ℚ) : q ≤ fitScale c W H ↔ q * c.width ≤ W ∧ q * c.height ≤ H := by
  rw [fitScale, le_min_iff, le_div_iff₀ c.width_pos, le_div_iff₀ c.height_pos]

/-- At the fitting scale the picture is as wide as the window or as high. -/
theorem fitScale_touches : fitScale c W H * c.width = W ∨ fitScale c W H * c.height = H := by
  obtain h | h := min_choice ((W : ℚ) / c.width) ((H : ℚ) / c.height)
  · exact .inl (by rw [fitScale, h, div_mul_cancel₀ _ c.width_pos.ne'])
  · exact .inr (by rw [fitScale, h, div_mul_cancel₀ _ c.height_pos.ne'])

theorem fitScale_mul (k : Nat) : fitScale c (k * c.width) (k * c.height) = k := by
  rw [fitScale, Nat.cast_mul, Nat.cast_mul, mul_div_cancel_right₀ _ c.width_pos.ne',
    mul_div_cancel_right₀ _ c.height_pos.ne', min_self]

variable {c}

theorem scaleOf_continuous (h : c.policy = .continuous) : scaleOf c W H = fitScale c W H := by
  simp only [scaleOf, h]

theorem scaleOf_integer (h : c.policy = .integer) : scaleOf c W H = max 1 ((⌊fitScale c W H⌋ : ℤ) : ℚ) := by
  simp only [scaleOf, h]

/-- The scale of the integer policy is natural: a bounded quotient of naturals. -/
theorem scaleOf_integer_eq_natCast (h : c.policy = .integer) :
    scaleOf c W H = (max 1 (min (W / c.width) (H / c.height)) : ℕ) := by
  rw [scaleOf_integer W H h, floor_fitScale, Int.cast_natCast, Nat.cast_max, Nat.cast_one]

variable {W H}

theorem fitScale_pos (hW : 1 ≤ W) (hH : 1 ≤ H) : 0 < fitScale c W H :=
  lt_min (div_pos (Nat.cast_pos.2 hW) c.width_pos) (div_pos (Nat.cast_pos.2 hH) c.height_pos)

/-- The policies part only where the fitting scale is not a natural of at least 1. -/
theorem scaleOf_of_fitScale_eq {k : Nat} (hk : 1 ≤ k) (h : fitScale c W H = k) : scaleOf c W H = k := by
  cases hpolicy : c.policy with
  | continuous => rw [scaleOf_continuous W H hpolicy, h]
  | integer =>
    rw [scaleOf_integer W H hpolicy, h, Int.floor_natCast, Int.cast_natCast, max_eq_right (Nat.one_le_cast.2 hk)]

end

/-! ### The rectangle -/

theorem viewport_degenerate {c : Cfg} {W H : Nat} (h : W = 0 ∨ H = 0) : viewport c W H = ⟨0, 0, 0, 0⟩ := if_pos h

theorem viewport_eq_centred {c : Cfg} {W H : Nat} (hW : 1 ≤ W) (hH : 1 ≤ H) :
    viewport c W H = centred W H (scaleOf c W H * c.width) (scaleOf c W H * c.height) :=
  if_neg (by omega)

theorem centred_margins (W H : Nat) (w h : ℚ) :
    2 * (centred W H w h).x + w = W ∧ 2 * (centred W H w h).y + h = H := by
  rw [centred, mul_div_cancel₀ _ two_ne_zero, mul_div_cancel₀ _ two_ne_zero]
  exact ⟨sub_add_cancel _ _, sub_add_cancel _ _⟩

theorem centred_x_eq_zero {W : Nat} {w : ℚ} (hw : w = W) (H : Nat) (h : ℚ) : (centred W H w h).x = 0 := by
  rw [centred, hw, sub_self, zero_div]

theorem centred_y_eq_zero {H : Nat} {h : ℚ} (hh : h = H) (W : Nat) (w : ℚ) : (centred W H w h).y = 0 := by
  rw [centred, hh, sub_self, zero_div]

/-- A picture as large as the window is the window. -/
theorem centred_self (W H : Nat) : centred W H W H = ⟨0, 0, W, H⟩ := by
  rw [centred, sub_self, sub_self, zero_div]

/-- Settles O39: the degenerate test comes first, and a covered pixel's rectangle has area. -/
theorem degenerateWindowCoversNothing : Obligations.DegenerateWindowCoversNothing := by
  refine ⟨fun _ _ _ => viewport_degenerate, fun vp px py empty covered => ?_⟩
  obtain ⟨-, -, hw, hh⟩ := covered_norm covered
  exact empty.elim hw.ne' hh.ne'

/-- A rectangle of the logical aspect ratio that fits the window is no larger than the one at the fitting scale. -/
theorem le_fitScale_rectangle {c : Cfg} {W H : Nat} {w h : ℚ} (aspect : w * c.height = h * c.width) (hw : w ≤ W)
    (hh : h ≤ H) : w ≤ fitScale c W H * c.width ∧ h ≤ fitScale c W H * c.height := by
  have hwidth : w / c.width * c.width = w := div_mul_cancel₀ _ c.width_pos.ne'
  have hheight : w / c.width * c.height = h := by
    rw [div_mul_eq_mul_div, aspect, mul_div_cancel_right₀ _ c.width_pos.ne']
  have hscale : w / c.width ≤ fitScale c W H := by
    rw [le_fitScale_iff, hwidth, hheight]
    exact ⟨hw, hh⟩
  constructor
  · exact hwidth.symm.trans_le (mul_le_mul_of_nonneg_right hscale c.width_pos.le)
  · exact hheight.symm.trans_le (mul_le_mul_of_nonneg_right hscale c.height_pos.le)

/-- Settles O37: the fitting scale is the largest at which the logical rectangle fits. -/
theorem continuousViewportIsTheLargestThatFits : Obligations.ContinuousViewportIsTheLargestThatFits := by
  rintro c W H r hpolicy hW hH rfl
  rw [viewport_eq_centred hW hH, scaleOf_continuous W H hpolicy]
  have hpos : 0 < fitScale c W H := fitScale_pos hW hH
  refine ⟨⟨rfl, rfl⟩, ⟨mul_pos hpos c.width_pos, mul_pos hpos c.height_pos, (le_fitScale_iff c W H _).1 le_rfl⟩,
    mul_right_comm _ _ _, ?_, centred_margins _ _ _ _, fun _ _ => le_fitScale_rectangle⟩
  exact (fitScale_touches c W H).imp (fun hw => ⟨hw, centred_x_eq_zero hw _ _⟩)
    fun hh => ⟨hh, centred_y_eq_zero hh _ _⟩

/-- Settles O38: the scale of the integer policy is natural, and the rectangle is centred at every scale. -/
theorem integerViewportHasANaturalScale : Obligations.IntegerViewportHasANaturalScale := by
  rintro c W H k hpolicy hW hH rfl
  rw [viewport_eq_centred hW hH, scaleOf_integer_eq_natCast W H hpolicy, ← Nat.cast_mul, ← Nat.cast_mul, centred]

/-- Settles O40: from k = 1 on the scale is k under both policies, and for k = 0 the window is empty. -/
theorem policiesAgreeAtExactMultiples : Obligations.PoliciesAgreeAtExactMultiples := by
  intro c k
  obtain rfl | hk := Nat.eq_zero_or_pos k
  · rw [Nat.zero_mul, Nat.zero_mul, viewport_degenerate (.inl rfl), Nat.cast_zero]
  · have hscale : scaleOf c (k * c.width) (k * c.height) = k := scaleOf_of_fitScale_eq hk (fitScale_mul c k)
    rw [viewport_eq_centred (Nat.mul_pos hk (one_le_width c)) (Nat.mul_pos hk c.height_bounds.1), hscale,
      ← Nat.cast_mul, ← Nat.cast_mul, centred_self]

/-! ### VPORT -/

theorem exec_vport (W H : Nat) (s : State) :
    exec (.vport W H) s = .next ((s.resizeSurf W H).setView W H (viewport s.cfg W H)) := rfl

/-- A resize writes the surface and the count of free values, and nothing else. -/
theorem resizeSurf_frame (s : State) (W H : Nat) :
    s.resizeSurf W H = (s.setSurf (s.resizeSurf W H).surf).setDraws (s.resizeSurf W H).draws := by
  obtain ⟨-, h⟩ | ⟨-, h⟩ := resizeSurf_cases s W H <;> rw [h] <;> rfl

/-- R171's scale, with the choice of policy as a condition. -/
theorem scaleOf_eq_ite (c : Cfg) (W H : Nat) :
    scaleOf c W H = if c.policy = .integer then max 1 ((⌊fitScale c W H⌋ : ℤ) : ℚ) else fitScale c W H := by
  cases hpolicy : c.policy with
  | continuous => exact scaleOf_continuous W H hpolicy
  | integer => exact scaleOf_integer W H hpolicy

/-- Settles O36: the surface is replaced only on a new size, by one of that size, and the rest is latched. -/
theorem vportLatchesSizeAndRectangle : Obligations.VportLatchesSizeAndRectangle := by
  intro s W H k hk
  obtain rfl : k = scaleOf s.cfg W H := hk.trans (scaleOf_eq_ite s.cfg W H).symm
  refine ⟨_, exec_vport W H s, congrArg (State.setView · W H (viewport s.cfg W H)) (resizeSurf_frame s W H), ?_⟩
  simp only [State.setView_surf, State.setView_draws]
  obtain ⟨same, h⟩ | ⟨changed, h⟩ := resizeSurf_cases s W H <;> rw [h]
  · exact ⟨fun _ => ⟨rfl, rfl⟩, fun hne => absurd same hne⟩
  · exact ⟨fun heq => absurd heq changed, fun _ => unspecifiedFrame_shape s.draws W H⟩

end Sys2Proof.Machine
end

section
/-! PROOFS. The host's cadence (45_presentation_loop R184 to R186): the clamped distance and the two searches of the
monitor list (O53), the refresh rate (O54) and the cycle budget (O55). -/

namespace Sys2Proof.Machine

/-! ### The distance -/

/-- Clamping moves a coordinate exactly when it lies outside the closed interval. -/
theorem sub_clampInto_eq_zero_iff {c lo len : ℚ} (h : 0 ≤ len) :
    c - clampInto c lo len = 0 ↔ lo ≤ c ∧ c ≤ lo + len := by
  rw [sub_eq_zero, clampInto]
  constructor
  · intro hc
    exact ⟨hc ▸ le_min (le_max_right _ _) (le_add_of_nonneg_right h), hc ▸ min_le_right _ _⟩
  · rintro ⟨hlo, hhi⟩
    rw [max_eq_left hlo, min_eq_left hhi]

theorem dist2_eq_zero_iff {m : Monitor} (cx cy : ℚ) (hw : 0 ≤ m.rect.w) (hh : 0 ≤ m.rect.h) :
    m.dist2 cx cy = 0 ↔
      (m.rect.x ≤ cx ∧ cx ≤ m.rect.x + m.rect.w) ∧ m.rect.y ≤ cy ∧ cy ≤ m.rect.y + m.rect.h := by
  rw [Monitor.dist2, add_eq_zero_iff_of_nonneg (sq_nonneg _) (sq_nonneg _), sq_eq_zero_iff, sq_eq_zero_iff,
    sub_clampInto_eq_zero_iff hw, sub_clampInto_eq_zero_iff hh]

/-! ### The two searches -/

section
variable {cx cy : ℚ} {ms : List Monitor}

theorem firstInside_eq_findIdx (cx cy : ℚ) (ms : List Monitor) :
    firstInside cx cy ms = ms.findIdx? fun m => decide (m.Inside cx cy) := by
  induction ms with
  | nil => rfl
  | cons m rest ih => simp only [firstInside, List.findIdx?_cons, ih, decide_eq_true_eq]

theorem not_inside_of_firstInside_eq_none (h : firstInside cx cy ms = none) : ∀ m ∈ ms, ¬m.Inside cx cy := by
  rw [firstInside_eq_findIdx, List.findIdx?_eq_none_iff] at h
  exact fun m hm => of_decide_eq_false (h m hm)

theorem inside_of_firstInside_eq_some {j : Nat} (h : firstInside cx cy ms = some j) :
    ∃ m, ms[j]? = some m ∧ m.Inside cx cy ∧ ∀ i m', i < j → ms[i]? = some m' → ¬m'.Inside cx cy := by
  rw [firstInside_eq_findIdx, List.findIdx?_eq_some_iff_getElem] at h
  obtain ⟨hj, hin, hbefore⟩ := h
  refine ⟨ms[j], List.getElem?_eq_getElem hj, of_decide_eq_true hin, fun i m' hi hm' => ?_⟩
  obtain ⟨-, rfl⟩ := List.getElem?_eq_some_iff.1 hm'
  exact fun hin' => hbefore i hi (decide_eq_true hin')

theorem nearest_eq_none_iff : nearest cx cy ms = none ↔ ms = [] := by
  cases ms with
  | nil => simp [nearest]
  | cons m rest =>
    rw [nearest]
    split
    · simp
    · split <;> simp

/-- The search answers the distance of the monitor it names, which is the least, and which no earlier one has. -/
theorem nearest_spec {j : Nat} {d : ℚ} (h : nearest cx cy ms = some (j, d)) :
    (∃ m, ms[j]? = some m ∧ m.dist2 cx cy = d) ∧ (∀ m ∈ ms, d ≤ m.dist2 cx cy) ∧
      ∀ i m, i < j → ms[i]? = some m → d < m.dist2 cx cy := by
  induction ms generalizing j d with
  | nil => cases h
  | cons m rest ih =>
    rw [nearest] at h
    split at h
    case h_1 hnone =>
      obtain rfl := nearest_eq_none_iff.1 hnone
      cases h
      simp
    case h_2 hsome =>
      obtain ⟨⟨m', hget, hdist⟩, hleast, hfirst⟩ := ih hsome
      split at h <;> cases h
      case isTrue hle =>
        exact ⟨⟨m, rfl, rfl⟩, List.forall_mem_cons.2 ⟨le_rfl, fun m' hm' => hle.trans (hleast m' hm')⟩,
          fun i _ hi => absurd hi (Nat.not_lt_zero i)⟩
      case isFalse hlt =>
        have hlt : d < m.dist2 cx cy := not_le.1 hlt
        refine ⟨⟨m', hget, hdist⟩, List.forall_mem_cons.2 ⟨hlt.le, hleast⟩, fun i m'' hi hm'' => ?_⟩
        cases i with
        | zero =>
          cases hm''
          exact hlt
        | succ i => exact hfirst i m'' (Nat.lt_of_succ_lt_succ hi) hm''

/-! ### The selection -/

theorem selectMonitor_of_inside {j : Nat} (h : firstInside cx cy ms = some j) :
    selectMonitor cx cy ms = some j := by
  rw [selectMonitor, h]

theorem selectMonitor_of_not_inside (h : firstInside cx cy ms = none) :
    selectMonitor cx cy ms = (nearest cx cy ms).map (·.1) := by
  rw [selectMonitor, h]

theorem selectMonitor_eq_none_iff : selectMonitor cx cy ms = none ↔ ms = [] := by
  cases h : firstInside cx cy ms with
  | none => rw [selectMonitor_of_not_inside h, Option.map_eq_none_iff, nearest_eq_none_iff]
  | some j =>
    rw [selectMonitor_of_inside h]
    refine ⟨nofun, ?_⟩
    rintro rfl
    cases h

end

/-- Settles O53: the selection is the first search's answer, and where that has none the second's. -/
theorem monitorSelectionFollowsTheRule : Obligations.MonitorSelectionFollowsTheRule := by
  refine fun cx cy ms => ⟨fun m => ⟨rfl, dist2_eq_zero_iff cx cy⟩, selectMonitor_eq_none_iff, fun j hsel => ?_⟩
  cases hin : firstInside cx cy ms with
  | some k =>
    obtain rfl : k = j := Option.some.inj ((selectMonitor_of_inside hin).symm.trans hsel)
    obtain ⟨m, hget, hinside, hfirst⟩ := inside_of_firstInside_eq_some hin
    exact ⟨m, hget, .inl ⟨hinside, hfirst⟩⟩
  | none =>
    rw [selectMonitor_of_not_inside hin, Option.map_eq_some_iff] at hsel
    obtain ⟨⟨k, d⟩, hnear, rfl⟩ := hsel
    obtain ⟨⟨m, hget, rfl⟩, hleast, hfirst⟩ := nearest_spec hnear
    exact ⟨m, hget, .inr ⟨not_inside_of_firstInside_eq_none hin, hleast, hfirst⟩⟩

/-! ### The refresh rate -/

theorem reportedRate_some {ms : List Monitor} {j : Nat} {m : Monitor} (h : ms[j]? = some m) :
    reportedRate ms (some j) = m.rate := by
  simp only [reportedRate, h]

theorem refreshRate_none (c : Cfg) : refreshRate c none = c.defaultRefreshHz := rfl

theorem refreshRate_zero (c : Cfg) : refreshRate c (some 0) = c.defaultRefreshHz := rfl

theorem refreshRate_of_pos (c : Cfg) {r : Nat} (h : 1 ≤ r) : refreshRate c (some r) = r :=
  if_neg (Nat.one_le_iff_ne_zero.1 h)

/-- Settles O54: what is reported in each case, and the rate for that report. -/
theorem refreshRateFallsBack : Obligations.RefreshRateFallsBack := by
  refine fun c ms sel r => ⟨?fallback, ?reported, refreshRate_pos c _⟩
  case fallback =>
    rintro (rfl | ⟨j, m, rfl, hget, hrate | hrate⟩)
    · exact refreshRate_none c
    · rw [reportedRate_some hget, hrate, refreshRate_none]
    · rw [reportedRate_some hget, hrate, refreshRate_zero]
  case reported =>
    rintro hr ⟨j, m, rfl, hget, hrate⟩
    rw [reportedRate_some hget, hrate, refreshRate_of_pos c hr]

/-! ### The cycle budget -/

/-- Settles O55: the budget is the quotient of naturals. -/
theorem budgetIsTheTruncatedQuotient : Obligations.BudgetIsTheTruncatedQuotient := by
  refine ⟨fun c r hr => ⟨Nat.div_mul_le_self _ _, ?_, Nat.div_eq_of_lt⟩, fun c hclock => ?_⟩
  · rw [mul_comm]
    exact Nat.lt_mul_div_succ _ hr
  · rw [cycleBudget, cycleBudget, hclock]
    exact ⟨rfl, rfl⟩

end Sys2Proof.Machine
end

section
/-! PROOFS. The host's loop (45_presentation_loop R181 to R183): the words it writes, what each event of the loop
does as a step, what a paused host leaves alone (O56), and the end of the loop (O57). -/

namespace Sys2Proof.Machine

/-! ### The words of the loop's commands -/

theorem command_loadfb : command .loadfb = .regWrite 0 0x30000000 := rfl

theorem command_uploadpal : command .uploadpal = .regWrite 0 0x70000000 := rfl

theorem command_decode : command .decode = .regWrite 0 0x80000000 := rfl

/-- Fields may be put together from either end. -/
theorem toNat_append_append {a b c : Nat} (x : BitVec a) (y : BitVec b) (z : BitVec c) :
    (x ++ (y ++ z)).toNat = (x ++ y ++ z).toNat := by
  rw [BitVec.append_assoc, BitVec.toNat_cast]

theorem encode_uploadfb (y0 n : BitVec 11) : encode (.uploadfb y0.toNat n.toNat) = 0x6#4 ++ 0#6 ++ n ++ y0 := by
  simp only [encode, Instr.opcode, Instr.operandBits, BitVec.ofNat_toNat, BitVec.setWidth_eq]
  exact BitVec.eq_of_toNat_eq ((toNat_append_append _ _ _).trans (toNat_append_append _ _ _))

theorem encode_vport (W H : BitVec 14) : encode (.vport W.toNat H.toNat) = 0x9#4 ++ H ++ W := by
  simp only [encode, Instr.opcode, Instr.operandBits, BitVec.ofNat_toNat, BitVec.setWidth_eq]
  exact BitVec.eq_of_toNat_eq (toNat_append_append _ _ _)

/-- Steps 3 to 6 as the words the host writes (45_presentation_loop R181). -/
theorem actions_eq_words (it : Iteration) (budget : Nat) :
    it.actions budget =
      [Event.cpu (.run budget) it.cpuWrites, .regWrite 0 0x30000000] ++
        it.uploads.map (fun u => Event.regWrite 0 (0x6#4 ++ 0#6 ++ u.n ++ u.y0)) ++
        (if it.uploadPal then [Event.regWrite 0 0x70000000] else []) ++ [Event.regWrite 0 0x80000000] := by
  simp only [Iteration.actions, command_loadfb, command_uploadpal, command_decode]
  simp only [command, encode_uploadfb]

/-! ### The events of the loop as steps -/

/-- Frame work at the head of a paused host's queue is dropped. -/
theorem step_paused_frameWork {s : State} {e : Event} {rest : List Event} (hpaused : s.loop = .paused)
    (hframe : isFrameWork e = true) (h : s.pending = e :: rest) : step s = .next (s.setPending rest) :=
  step_heldBack s e rest h ((heldBack_iff _ _).2 ⟨hpaused, hframe⟩)

section
variable {s : State} {rest : List Event}

theorem step_iterate_running {it : Iteration} (hrun : s.loop = .running) (h : s.pending = .iterate it :: rest) :
    step s = .next ((s.setCadence (some (it.cadence s.cfg))).setPending
      (it.actions (it.cadence s.cfg).budget ++ rest)) := by
  have hb : heldBack s.loop (.iterate it) = false := by rw [hrun, heldBack_running]
  obtain ⟨hstopped, -⟩ | ⟨-, hs⟩ := onIterate_cases it (s.setPending rest)
  · exact absurd hrun hstopped
  · exact (step_event s _ rest h hb).trans (congrArg Host.Outcome.next hs)

/-- A paused host drops the iteration, and a terminated one does nothing on it. -/
theorem step_iterate_not_running {it : Iteration} (hstopped : s.loop ≠ .running)
    (h : s.pending = .iterate it :: rest) : step s = .next (s.setPending rest) := by
  cases hb : heldBack s.loop (.iterate it) with
  | true => exact step_heldBack s _ rest h hb
  | false =>
    obtain ⟨-, hs⟩ | ⟨hrun, -⟩ := onIterate_cases it (s.setPending rest)
    · exact (step_event s _ rest h hb).trans (congrArg Host.Outcome.next hs)
    · exact absurd hrun hstopped

theorem onVisibility_live {visible : Bool} (h : s.loop ≠ .terminated) :
    onVisibility visible s = s.setLoop (if visible then .running else .paused) := by
  have hself : s.setLoop s.loop = s := rfl
  rw [onVisibility]
  cases hloop : s.loop with
  | terminated => exact absurd hloop h
  | running | paused => cases visible <;> simp [← hloop, hself]

theorem onVisibility_terminated {visible : Bool} (h : s.loop = .terminated) : onVisibility visible s = s := by
  rw [onVisibility, h]

theorem step_visibility {visible : Bool} (h : s.pending = .visibility visible :: rest) :
    step s = .next (onVisibility visible (s.setPending rest)) :=
  step_event s _ rest h (heldBack_of_not_frame rfl s.loop)

theorem step_resize {W H : BitVec 14} (h : s.pending = .resize W H :: rest) :
    step s = .next (onResize W H (s.setPending rest)) :=
  step_event s _ rest h (heldBack_of_not_frame rfl s.loop)

theorem step_resize_terminated {W H : BitVec 14} (hend : s.loop = .terminated)
    (h : s.pending = .resize W H :: rest) : step s = .next (s.setPending rest) := by
  obtain ⟨-, hs⟩ | ⟨hlive, -⟩ := onResize_cases W H (s.setPending rest)
  · rw [step_resize h, hs]
  · exact absurd hend hlive

theorem step_resize_live {W H : BitVec 14} (hlive : s.loop ≠ .terminated) (h : s.pending = .resize W H :: rest) :
    step s = .next (s.setPending (command (.vport W.toNat H.toNat) :: rest)) := by
  obtain ⟨hend, -⟩ | ⟨-, hs⟩ := onResize_cases W H (s.setPending rest)
  · exact absurd hend hlive
  · rw [step_resize h, hs]
    rfl

theorem steps_one (s : State) : steps 1 s = step s := by
  rw [steps]
  cases step s <;> rfl

/-- VPORT is no frame command, so a paused host issues it as well. -/
theorem steps_resize_live {W H : BitVec 14} (hlive : s.loop ≠ .terminated) (h : s.pending = .resize W H :: rest) :
    steps 2 s = exec (.vport W.toNat H.toNat) (s.setPending rest) := by
  have hvport : step (s.setPending (command (.vport W.toNat H.toNat) :: rest)) =
      exec (.vport W.toNat H.toNat) (s.setPending rest) :=
    step_command ⟨W.isLt, H.isLt⟩ (by simp [FrameCommand]) rfl
  calc steps 2 s = steps 1 (s.setPending (command (.vport W.toNat H.toNat) :: rest)) :=
        steps_succ 1 (step_resize_live hlive h)
    _ = step (s.setPending (command (.vport W.toNat H.toNat) :: rest)) := steps_one _
    _ = exec (.vport W.toNat H.toNat) (s.setPending rest) := hvport

end

/-! ### What a paused host leaves alone -/

/-- A command that is none of the frame's leaves both textures and the history as they are. -/
theorem exec_keeps_frame {i : Instr} {s t : State} (hi : ¬FrameCommand i) (h : exec i s = .next t) :
    t.fbtex = s.fbtex ∧ t.paltex = s.paltex ∧ t.presented = s.presented := by
  obtain ⟨writers, -⟩ := eachStoreHasItsOwnWriter
  obtain ⟨-, hfbtex, -, hpaltex, -, -, hpresented, -⟩ := writers i s t h
  refine ⟨by_contra fun changed => ?_, by_contra fun changed => ?_, by_contra fun changed => ?_⟩
  · exact hi (.inr (.inl (hfbtex changed)))
  · exact hi (.inr (.inr (.inl (hpaltex changed))))
  · exact hi (.inr (.inr (.inr (hpresented changed))))

theorem runCommand_keeps_frame {w : Word} {s t : State} (hw : isFrameWork (.regWrite 0 w) = false)
    (h : runCommand w s = .next t) : t.fbtex = s.fbtex ∧ t.paltex = s.paltex ∧ t.presented = s.presented := by
  cases hd : decodeWord w with
  | ok i =>
    rw [isFrameWork_command hd, Bool.eq_false_iff, ne_eq, isFrameCommand_iff] at hw
    exact exec_keeps_frame hw (runCommand_ok hd s ▸ h)
  | error e =>
    rw [runCommand_error hd, Host.Outcome.next.injEq] at h
    exact h ▸ ⟨rfl, rfl, rfl⟩

theorem handle_keeps_frame {e : Event} {s t : State} (he : isFrameWork e = false) (hreset : e ≠ .blockReset)
    (h : handle e s = .next t) : t.fbtex = s.fbtex ∧ t.paltex = s.paltex ∧ t.presented = s.presented := by
  obtain kept | ⟨w, rfl, ran⟩ | rfl := handle_blockStores h
  · exact ⟨congrArg BlockStores.fbtex kept, congrArg BlockStores.paltex kept, congrArg BlockStores.presented kept⟩
  · exact runCommand_keeps_frame he ran
  · exact absurd rfl hreset

theorem runCommand_keeps_cadence {w : Word} {s t : State} (h : runCommand w s = .next t) :
    t.cadence = s.cadence := by
  cases hd : decodeWord w with
  | ok i =>
    obtain ⟨-, -, -, -, -, -, -, hcadence, -⟩ := commandsLeaveHostAndCpuAlone i s t (runCommand_ok hd s ▸ h)
    exact hcadence
  | error e =>
    rw [runCommand_error hd, Host.Outcome.next.injEq] at h
    exact h ▸ rfl

/-- The cadence is computed by an iteration that begins, and by no other event. -/
theorem handle_keeps_cadence {e : Event} {s t : State} (he : isFrameWork e = false) (h : handle e s = .next t) :
    t.cadence = s.cadence := by
  cases e with
  | regWrite n v =>
    by_cases hn : n = 0
    · subst hn
      exact runCommand_keeps_cadence h
    · have hw : Host.Outcome.next (s.writeReg n v) = .next t := (busWrite_pos hn v s).symm.trans h
      rw [← Host.Outcome.next.inj hw]
      obtain hs | hs | hs | ⟨p, hs⟩ := writeReg_cases s n v <;> simp [hs]
  | cpu call writes =>
    obtain ⟨-, hs⟩ | ⟨c, -, -, hs⟩ := cpuCall_cases writes s
    · rw [← Host.Outcome.next.inj (hs.symm.trans h), State.setCpuMem_cadence]
    · cases hs.symm.trans h
  | resize W H =>
    rw [← Host.Outcome.next.inj h]
    obtain ⟨-, hs⟩ | ⟨-, hs⟩ := onResize_cases W H s <;> simp [hs]
  | visibility visible =>
    rw [← Host.Outcome.next.inj h]
    obtain hs | ⟨-, hs⟩ | ⟨-, hs⟩ := onVisibility_cases visible s <;> simp [hs]
  | iterate it => cases he
  | regRead n => exact Host.Outcome.next.inj h ▸ rfl
  | blockReset => exact Host.Outcome.next.inj h ▸ rfl
  | close => exact Host.Outcome.next.inj h ▸ rfl
  | startupFailure => exact Host.Outcome.next.inj h ▸ rfl

/-- What a paused host handles is no frame work, and everything else it drops. -/
theorem step_paused_keeps_frame {s t : State} (hpaused : s.loop = .paused)
    (hreset : ∀ rest, s.pending ≠ .blockReset :: rest) (h : step s = .next t) :
    t.fbtex = s.fbtex ∧ t.paltex = s.paltex ∧ t.presented = s.presented ∧ t.cadence = s.cadence := by
  obtain ⟨-, rfl⟩ | ⟨e, rest, hp, ⟨-, rfl⟩ | ⟨hb, handled⟩⟩ := step_cases h
  · exact ⟨rfl, rfl, rfl, rfl⟩
  · exact ⟨rfl, rfl, rfl, rfl⟩
  · rw [hpaused, heldBack_paused] at hb
    obtain ⟨hfbtex, hpaltex, hpresented⟩ :=
      handle_keeps_frame hb (fun he => hreset rest (he ▸ hp)) handled
    exact ⟨hfbtex, hpaltex, hpresented, handle_keeps_cadence (s := s.setPending rest) hb handled⟩

/-! ### The statements -/

/-- Settles O56: each clause is what the step does with that event, the commands written as words. -/
theorem iterationIssuesTheSixSteps : Obligations.IterationIssuesTheSixSteps := by
  refine ⟨?iterate, ?visibility, ?resize, fun s k writes rest hpaused => step_paused_frameWork hpaused rfl,
    fun s t => step_paused_keeps_frame⟩
  case iterate =>
    rintro s it rest r hp rfl
    refine ⟨fun hrun => ?_, fun hstopped => step_iterate_not_running hstopped hp⟩
    rw [step_iterate_running hrun hp, actions_eq_words]
    rfl
  case visibility =>
    refine fun s visible rest hp => ⟨fun hlive => ?_, fun hend => ?_⟩
    · exact (step_visibility hp).trans (congrArg Host.Outcome.next (onVisibility_live hlive))
    · exact (step_visibility hp).trans (congrArg Host.Outcome.next (onVisibility_terminated hend))
  case resize =>
    refine fun s W H rest hp => ⟨fun hlive => ⟨?_, steps_resize_live hlive hp⟩, fun hend =>
      step_resize_terminated hend hp⟩
    rw [step_resize_live hlive hp, command, encode_vport]

/-- With nothing pending no number of steps changes anything. -/
theorem steps_idle {s : State} (h : s.pending = []) (n : Nat) : steps n s = .next s := by
  induction n with
  | zero => rfl
  | succ n ih => rw [steps_succ n (step_idle s h), ih]

theorem step_close {s : State} {rest : List Event} (h : s.pending = .close :: rest) :
    step s = .next ((s.setLoop .terminated).setPending []) :=
  step_event s _ rest h (heldBack_of_not_frame rfl s.loop)

/-- Settles O57: the close request empties the queue, and from then on the machine idles. -/
theorem closeEndsTheLoop : Obligations.CloseEndsTheLoop :=
  fun _ _ hp => ⟨_, step_close hp, rfl, steps_idle rfl⟩

end Sys2Proof.Machine
end

section
/-! PROOFS. A frame's uploads (45_presentation_loop R181, R188): any uploads that cover the rows that changed (O58), and
the whole of FRAME (O59). -/

namespace Sys2Proof.Machine

/-! ### The uploads of an iteration -/

/-- The uploads of FB as commands. -/
def uploadCommands (us : List RowRange) : List Instr := us.map fun u => .uploadfb u.y0.toNat u.n.toNat

/-- A row is one of a range's rows. -/
abbrev RowRange.Holds (u : RowRange) (r : Nat) : Prop := u.y0.toNat ≤ r ∧ r < u.y0.toNat + u.n.toNat

/-- One upload leaves a row equal to FB's that was so before or is in the range. -/
theorem putRows_row_current {s : State} {u : RowRange} {r : Nat} (hr : r < s.fbtex.length)
    (h : u.Holds r ∨ s.fbtex[r]? = some (s.fbRow r)) :
    (s.putRows u.y0.toNat u.n.toNat).fbtex[r]? = some (s.fbRow r) := by
  by_cases hin : u.Holds r
  · exact putRows_row_inside hr hin
  · rw [putRows_row_outside hin]
    exact h.resolve_left hin

/-- Uploads that lie in the texture change nothing but FBTEX, and leave every row equal to FB's that was so before
or is in one of the ranges. -/
theorem execAll_uploadCommands (us : List RowRange) {s : State}
    (hin : ∀ u ∈ us, u.y0.toNat + u.n.toNat ≤ s.cfg.height) :
    ∃ t, execAll (uploadCommands us) s = .next t ∧ t = s.setFbtex t.fbtex ∧
      ∀ r, r < s.fbtex.length → ((∃ u ∈ us, u.Holds r) ∨ s.fbtex[r]? = some (s.fbRow r)) →
        t.fbtex[r]? = some (s.fbRow r) := by
  induction us generalizing s with
  | nil => exact ⟨s, rfl, rfl, fun r _ h => h.resolve_left (by simp)⟩
  | cons u us ih =>
    obtain ⟨hu, hus⟩ := List.forall_mem_cons.1 hin
    obtain ⟨t, hrun, honly, hrows⟩ := ih (s := s.putRows u.y0.toNat u.n.toNat) hus
    refine ⟨t, (execAll_cons _ (exec_uploadfb_inside hu)).trans hrun, honly, fun r hr h => ?_⟩
    refine hrows r (by rwa [State.putRows_fbtex_length]) ?_
    rw [List.exists_mem_cons_iff, or_comm (a := u.Holds r), or_assoc] at h
    exact h.imp_right (putRows_row_current hr)

/-- UPLOADPAL, issued or left out while PALTEX equals PAL, leaves PALTEX equal to PAL. -/
theorem execAll_uploadpal_if {s : State} {issued : Bool} (h : issued = false → s.paltex = s.pal) :
    execAll (if issued then [.uploadpal] else []) s = .next (s.setPaltex s.pal) := by
  cases issued with
  | true => exact execAll_cons [] (exec_uploadpal s)
  | false =>
    rw [← h rfl]
    rfl

/-- Settles O58: a row that no range holds has not changed, so it was FB's before the uploads. -/
theorem uploadingTheChangedRowsSuffices : Obligations.UploadingTheChangedRowsSuffices := by
  rintro s it hlen ⟨hrows, hpal⟩ hin
  obtain ⟨t, hrun, honly, hcurrent⟩ := execAll_uploadCommands it.uploads hin
  have hpaltex : t.paltex = s.paltex := by rw [honly, State.setFbtex_paltex]
  have hpalKept : t.pal = s.pal := by rw [honly, State.setFbtex_pal]
  have hpalette : execAll (if it.uploadPal then [.uploadpal] else []) t = .next (t.setPaltex s.pal) :=
    hpalKept ▸ execAll_uploadpal_if fun hskip => hpaltex.trans ((hpal hskip).trans hpalKept.symm)
  refine ⟨t.setPaltex s.pal, (execAll_append _ hrun).trans hpalette, congrArg (State.setPaltex · s.pal) honly,
    fun r hr => hcurrent r (hlen ▸ hr) ?_⟩
  exact (em (s.fbtex[r]? = some (s.fbRow r))).symm.imp_left (hrows r hr)

/-! ### FRAME -/

/-- UPLOADFB.ALL's word: the opcode, and HEIGHT in field n. -/
theorem encode_uploadAll (c : Cfg) :
    encode (uploadAll c) = 0x60000000#32 ||| (BitVec.ofNat 32 c.height <<< 11) := by
  have hheight : c.height ≤ 1024 := c.height_bounds.2
  have hwf : (uploadAll c).WellFormed := ⟨by omega, by omega⟩
  have hfield : c.height * 2 ^ 11 < 2 ^ 22 := by omega
  have hor : 0x60000000 ||| c.height * 2 ^ 11 = 0x60000000 + c.height * 2 ^ 11 := by
    simpa using (Nat.shiftLeft_add_eq_or_of_lt hfield 0x180).symm
  have hshift : (BitVec.ofNat 32 c.height <<< 11).toNat = c.height * 2 ^ 11 := by
    rw [BitVec.toNat_shiftLeft, BitVec.toNat_ofNat, Nat.shiftLeft_eq]
    omega
  apply BitVec.eq_of_toNat_eq
  calc (encode (uploadAll c)).toNat = 6 * 2 ^ 28 + (c.height * 2 ^ 11 + 0) := by
        rw [encode_toNat, operandBits_toNat hwf]
        rfl
    _ = 0x60000000 + c.height * 2 ^ 11 := by omega
    _ = (0x60000000#32 ||| (BitVec.ofNat 32 c.height <<< 11)).toNat := by rw [← hor, BitVec.toNat_or, hshift]; rfl

theorem frameCommands_words (c : Cfg) :
    (frameCommands c).map encode =
      ([0x30000000, 0x60000000#32 ||| (BitVec.ofNat 32 c.height <<< 11), 0x70000000, 0x80000000] : List Word) := by
  rw [← encode_uploadAll]
  rfl

/-- What FRAME's DECODE decodes has every row of FB in FBTEX. -/
theorem uploaded_row {s : State} {r : Nat} (hlen : s.fbtex.length = s.cfg.height) (hr : r < s.cfg.height) :
    s.uploaded.fbtex[r]? = some (s.uploaded.fbRow r) :=
  putRows_row_inside (s := s.setFb s.window) (hlen ▸ hr) ⟨Nat.zero_le r, (Nat.zero_add _).symm ▸ hr⟩

/-- Settles O59: the uploads fill the stores that DECODE reads and leaves as they are. -/
theorem frameShowsCpuMemory : Obligations.FrameShowsCpuMemory := by
  intro s hlen
  refine ⟨frameCommands_words s.cfg, s.uploaded.afterDecode, execAll_frameCommands s, window_length s, window_get s,
    fun r hr => uploaded_row hlen hr, rfl, rfl, rfl, fun px py hx hy covered => ?_⟩
  rw [colourAt_afterDecode (s := s.uploaded) hx hy covered, decodePixel_of_sameInputs (afterDecode_sameInputs _)]

end Sys2Proof.Machine
end

section
/-! PROOFS. Exceptions (60_exceptions): which commands are rejected and with what effect (O8, O9), and that nothing
but a CPU call to an absent address stops the machine (O49). -/

namespace Sys2Proof.Machine

/-! ### Rejection -/

/-- An operand that 60_exceptions R201 names rejects its command, whichever of the three it is. -/
theorem exec_of_outOfRange {i : Instr} {s : State} (h : OutOfRange s.cfg i) : exec i s = .next s.reject := by
  cases i with
  | setpix x y c8 => exact congrArg Host.Outcome.next (if_neg fun hin => h ((inLogical_iff _ _ _).1 hin))
  | getpix x y => exact exec_getpix_outside h
  | uploadfb y0 n => exact congrArg Host.Outcome.next (if_pos h)
  | loadfb | colorat | loadpal | uploadpal | decode | vport => exact h.elim

/-- Settles O8: the operands it names are those that reject the command. -/
theorem outOfRangeOperandOnlySetsErrRange : Obligations.OutOfRangeOperandOnlySetsErrRange := by
  intro s x y c8 y0 n
  refine ⟨fun hout => ?_, fun hrows => exec_of_outOfRange (i := .uploadfb y0 n) hrows⟩
  have outside : ¬(x < s.cfg.width ∧ y < s.cfg.height) := by omega
  exact ⟨exec_of_outOfRange (i := .setpix x y c8) outside, exec_of_outOfRange (i := .getpix x y) outside⟩

/-- Settles O9: only the rejected outcome of a command touches STATUS, and it is nothing but the flag. -/
theorem rejectedCommandHasNoOtherEffect : Obligations.RejectedCommandHasNoOtherEffect :=
  fun _ s _ h => (exec_status h).imp_right fun rejected => rejected.trans (reject_eq s)

/-! ### Completion -/

theorem exec_completes (i : Instr) (s : State) : ∃ t, exec i s = .next t := by
  obtain ⟨t, h, -⟩ := exec_next_cfg i s
  exact ⟨t, h⟩

/-- A word written to CMD completes, whether or not it is a command. -/
theorem runCommand_completes (w : Word) (s : State) : ∃ t, runCommand w s = .next t := by
  cases hd : decodeWord w with
  | ok i =>
    rw [runCommand_ok hd]
    exact exec_completes i s
  | error e => exact ⟨_, runCommand_error hd s⟩

theorem busWrite_completes (n : Nat) (v : Word) (s : State) : ∃ t, busWrite n v s = .next t := by
  by_cases hn : n = 0
  · subst hn
    exact runCommand_completes v s
  · exact ⟨_, busWrite_pos hn v s⟩

/-- The event calls the CPU collaborator with a byte at `a`, and CPU memory has no address `a`. -/
def Event.WritesAbsent (c : Cfg) (e : Event) (a : Nat) : Prop :=
  ∃ call writes, e = .cpu call writes ∧ a ∈ writes.map (·.1) ∧ 2 ^ c.addrBits ≤ a

/-- An event completes, or names an absent address and stops there. -/
theorem handle_completes_or_faults (e : Event) (s : State) :
    (∃ t, handle e s = .next t) ∨ ∃ a, e.WritesAbsent s.cfg a ∧ handle e s = .fault (.noSuchCpuAddress a) := by
  cases e with
  | cpu call writes =>
    obtain ⟨-, completes⟩ | ⟨c, hc, absent, faults⟩ := cpuCall_cases writes s
    · exact .inl ⟨_, completes⟩
    · exact .inr ⟨c.1, ⟨call, writes, rfl, List.mem_map_of_mem hc, absent⟩, faults⟩
  | regWrite n v => exact .inl (busWrite_completes n v s)
  | regRead | blockReset | resize | visibility | iterate | close | startupFailure => exact .inl ⟨_, rfl⟩

/-- A step that does not complete has stopped at the event it took from the queue. -/
theorem step_completes_or_faults (s : State) :
    (∃ t, step s = .next t) ∨ ∃ e rest a, s.pending = e :: rest ∧ e.WritesAbsent s.cfg a ∧
      step s = .fault (.noSuchCpuAddress a) := by
  cases hp : s.pending with
  | nil => exact .inl ⟨s, step_idle s hp⟩
  | cons e rest =>
    cases hb : heldBack s.loop e with
    | true => exact .inl ⟨_, step_heldBack s e rest hp hb⟩
    | false =>
      rw [step_event s e rest hp hb]
      exact (handle_completes_or_faults e (s.setPending rest)).imp_right
        fun ⟨a, absent, faults⟩ => ⟨e, rest, a, rfl, absent, faults⟩

/-- Settles O49: commands complete one by one, and the only event that stops a step is the CPU's write to an absent
address. -/
theorem commandsNeverFaultOrRefuse : Obligations.CommandsNeverFaultOrRefuse := by
  refine ⟨exec_completes, fun s => (step_completes_or_faults s).imp_right ?_⟩
  rintro ⟨_, rest, a, hp, ⟨call, writes, rfl, listed, absent⟩, faults⟩
  exact ⟨call, writes, rest, a, hp, listed, absent, faults⟩

end Sys2Proof.Machine
end

section
/-! PROOFS. Reset and hazards (70_reset_and_hazards R220, R221, R224): after a loaded palette and a whole frame DECODE's
inputs are functions of what the host and the CPU wrote (O35), and the two resets change nothing in common (O52). -/

namespace Sys2Proof.Machine

/-! ### What the loads and uploads of a frame depend on -/

section
variable {s t : State}

theorem window_congr (hcfg : t.cfg = s.cfg) (hmem : t.cpuMem = s.cpuMem) : t.window = s.window := by
  simp only [State.window, State.memRead, hcfg, hmem]

theorem fbRow_congr (hcfg : t.cfg = s.cfg) (hfb : t.fb = s.fb) (r : Nat) : t.fbRow r = s.fbRow r := by
  simp only [State.fbRow, State.fbByte, hcfg, hfb]

theorem staged_congr (h : t.palstage = s.palstage) : t.staged = s.staged := by
  simp only [State.staged, h]

/-- FRAME's uploads leave nothing of the old FBTEX: it is FB, row after row. -/
theorem uploaded_fbtex (hlen : s.fbtex.length = s.cfg.height) :
    s.uploaded.fbtex = (List.range s.cfg.height).map s.uploaded.fbRow := by
  have hrows : s.uploaded.fbtex.length = s.cfg.height := (State.putRows_fbtex_length _ _ _).trans hlen
  refine List.ext_getElem (by rw [hrows, List.length_map, List.length_range]) fun r hr _ => ?_
  have hrow := uploaded_row hlen (hrows ▸ hr)
  rw [List.getElem?_eq_getElem hr, Option.some.injEq] at hrow
  rw [hrow, List.getElem_map, List.getElem_range]

/-- What LOADFB and UPLOADFB.ALL put into FBTEX comes from CPU memory alone. -/
theorem uploaded_fbtex_congr (hs : s.fbtex.length = s.cfg.height) (ht : t.fbtex.length = t.cfg.height)
    (hcfg : t.cfg = s.cfg) (hmem : t.cpuMem = s.cpuMem) : t.uploaded.fbtex = s.uploaded.fbtex := by
  have hrow : t.uploaded.fbRow = s.uploaded.fbRow := funext (fbRow_congr hcfg (window_congr hcfg hmem))
  rw [uploaded_fbtex hs, uploaded_fbtex ht, hcfg, hrow]

end

/-! ### A loaded palette and a whole frame -/

theorem execAll_loadpal_frameCommands (s : State) :
    execAll (.loadpal :: frameCommands s.cfg) s = .next (s.setPal s.staged).uploaded.afterDecode := by
  rw [execAll_cons _ (exec_loadpal s), ← State.setPal_cfg s s.staged, execAll_frameCommands]

/-- Settles O35: for every palette loaded, the frame's DECODE reads two states with the same inputs, and a covered
pixel shows nothing else; the staging words load the same palette into both. -/
theorem definedFrameHidesUnspecifiedContents : Obligations.DefinedFrameHidesUnspecifiedContents := by
  intro s₁ s₂ t₁ t₂ hlen₁ hlen₂ hcfg hmem hstage hvp hW hH hwarp hscan h₁ h₂
  have same (p : Palette) : SameDecoderInputs (s₁.setPal p).uploaded (s₂.setPal p).uploaded :=
    ⟨hcfg, hvp, hW, hH, hwarp, hscan,
      uploaded_fbtex_congr (s := s₁.setPal p) (t := s₂.setPal p) hlen₁ hlen₂ hcfg hmem, rfl⟩
  have shown (p : Palette) : SameWhereCovered s₁.vp (s₁.setPal p).uploaded.afterDecode.surf
      (s₂.setPal p).uploaded.afterDecode.surf :=
    decodeSeesOnlyItsInputs (s₁.setPal p).uploaded _ _ _ (same p) (exec_decode _) (exec_decode _)
  obtain rfl := Host.Outcome.next.inj ((execAll_loadpal_frameCommands s₁).symm.trans h₁)
  obtain rfl := Host.Outcome.next.inj ((execAll_loadpal_frameCommands s₂).symm.trans h₂)
  rw [staged_congr hstage]
  exact shown s₁.staged

/-! ### The two resets -/

/-- Of the CPU's calls only `run` is frame work, which a paused host skips. -/
theorem isFrameWork_cpu_iff (call : CpuCall) (writes : List Host.Cell) :
    isFrameWork (.cpu call writes) = true ↔ ∃ k, call = .run k := by
  cases call with
  | run k => exact ⟨fun _ => ⟨k, rfl⟩, fun _ => rfl⟩
  | write | reset => simp [isFrameWork]

theorem cpuCall_of_legal {writes : List Host.Cell} {s : State} (h : ∀ c ∈ writes, c.1 < 2 ^ s.cfg.addrBits) :
    cpuCall writes s = .next (s.setCpuMem (s.cpuMem.writeAll writes)) := by
  obtain ⟨-, completes⟩ | ⟨c, hc, absent, -⟩ := cpuCall_cases writes s
  · exact completes
  · exact absurd (h c hc) absent.not_gt

/-- A call that the host makes, at addresses there are, writes its bytes in order. -/
theorem step_cpu {s : State} {call : CpuCall} {writes : List Host.Cell} {rest : List Event}
    (hp : s.pending = .cpu call writes :: rest) (hexist : ∀ c ∈ writes, c.1 < 2 ^ s.cfg.addrBits)
    (hcalled : s.loop ≠ .paused ∨ ∀ k, call ≠ .run k) :
    step s = .next ((s.setPending rest).setCpuMem (s.cpuMem.writeAll writes)) := by
  have hb : heldBack s.loop (.cpu call writes) = false := by
    rw [Bool.eq_false_iff, ne_eq, heldBack_iff, isFrameWork_cpu_iff]
    rintro ⟨hpaused, k, hrun⟩
    exact hcalled.elim (· hpaused) (· k hrun)
  exact (step_event s _ rest hp hb).trans (cpuCall_of_legal (s := s.setPending rest) hexist)

/-- Settles O52: the block's reset is `State.blockReset`, and a CPU call is the writes it lists. -/
theorem theTwoResetsAreIndependent : Obligations.TheTwoResetsAreIndependent := by
  refine ⟨fun s rest hp => ⟨_, step_blockReset hp, blockReset_hasResetValues _, rfl, rfl⟩, ?_⟩
  intro s call writes rest hp hwf hexist hcalled
  refine ⟨_, step_cpu hp hexist hcalled, rfl, Memory.writeAll_wf hwf writes, ?_,
    Memory.read_writeAll_other s.cpuMem writes⟩
  rintro before a v after rfl hlast
  exact Memory.read_writeAll_last hwf before after a v hlast

end Sys2Proof.Machine
end
